-- ==== Sys2Proof/Word.lean ====
section
/-! DEFINITION. The word and byte types of the Binary Block Framer (BBF) and the two byte orders of a section.
Rules R16 and R17 of spec/00_scope.md: every register is 64 bits wide, BUF holds bytes. -/

namespace Sys2Proof

/-- The content of a 64-bit register (R16, REG_BITS = 64). -/
abbrev Word := BitVec 64

/-- One byte of BUF. -/
abbrev Byte := BitVec 8

/-- The byte order of a section (R17, R22): little-endian or big-endian. -/
inductive ByteOrder where
  | le
  | be
deriving DecidableEq, Repr

end Sys2Proof
end

