-- ==== Sys2Proof/Syntax.lean ====
section
/-! DEFINITION. The twelve commands of the opcode map (spec/30_encoding.md R86), one constructor per row of spec/opcode_table.json,
with the fields their formats carry (R81 to R84). No command carries an immediate or an address (R85). -/

namespace Sys2Proof

/-- The integer width code WC of format I (R82). -/
inductive IntWidth where
  | w8
  | w16
  | w32
  | w64
deriving DecidableEq, Repr

/-- One command. `signed` is the bit S of format I (R83); `fidx` is the sub-field index FIDX of format F (R84). -/
inductive Instr where
  | nop
  | intDec (width : IntWidth) (signed : Bool)
  | intEnc (width : IntWidth) (signed : Bool)
  | flagConfig
  | flagGet (fidx : Nat)
  | flagSet (fidx : Nat)
  | optBegin
  | optDec
  | optEnc
  | optEnd
  | frameEnc
  | frameDec
deriving DecidableEq, Repr

end Sys2Proof
end

