-- ==== Sys2Proof/WellFormed.lean ====
section
/-! DEFINITION. Which terms of `Instr` a command word can spell (spec/30_encoding.md R84: FIDX is 0..15; WC and S are total). -/

namespace Sys2Proof

/-- FIDX fits its four bits (R81, R84); every other field is total by its type. -/
def Instr.wellFormed : Instr → Bool
  | .nop => true
  | .intDec _ _ => true
  | .intEnc _ _ => true
  | .flagConfig => true
  | .flagGet j => decide (j < 16)
  | .flagSet j => decide (j < 16)
  | .optBegin => true
  | .optDec => true
  | .optEnc => true
  | .optEnd => true
  | .frameEnc => true
  | .frameDec => true

abbrev Instr.WellFormed (i : Instr) : Prop := i.wellFormed = true

end Sys2Proof
end

