-- ==== Sys2Proof/Decode.lean ====
section
/-! DEFINITION. The opcode map as data, the decoder of command words and the encoder (spec/30_encoding.md R80 to R88). -/

namespace Sys2Proof

/-- The twelve opcodes of the map (R86), by the name of their mnemonic. -/
inductive Op where
  | nop | intDec | intEnc | flagConfig | flagGet | flagSet
  | optBegin | optDec | optEnc | optEnd | frameEnc | frameDec
deriving DecidableEq, Repr

/-- One row of the opcode map: a word `w` selects the row when `w AND mask = pattern` (R86; `pattern` is the map's column match). -/
structure Row where
  mnemonic : String
  op       : Op
  pattern  : BitVec 32
  mask     : BitVec 32
deriving DecidableEq, Repr

/-- The opcode map of R86, row by row. -/
def opcodeTable : List Row :=
  [ ⟨"NOP",         .nop,        0x00000000, 0xFFFFFFFF⟩,
    ⟨"INT_DEC",     .intDec,     0x00000001, 0xFFFFECFF⟩,
    ⟨"INT_ENC",     .intEnc,     0x00000002, 0xFFFFECFF⟩,
    ⟨"FLAG_CONFIG", .flagConfig, 0x00000010, 0xFFFFFFFF⟩,
    ⟨"FLAG_GET",    .flagGet,    0x00000011, 0xFFF0FFFF⟩,
    ⟨"FLAG_SET",    .flagSet,    0x00000012, 0xFFF0FFFF⟩,
    ⟨"OPT_BEGIN",   .optBegin,   0x00000020, 0xFFFFFFFF⟩,
    ⟨"OPT_DEC",     .optDec,     0x00000021, 0xFFFFFFFF⟩,
    ⟨"OPT_ENC",     .optEnc,     0x00000022, 0xFFFFFFFF⟩,
    ⟨"OPT_END",     .optEnd,     0x00000023, 0xFFFFFFFF⟩,
    ⟨"FRAME_ENC",   .frameEnc,   0x00000030, 0xFFFFFFFF⟩,
    ⟨"FRAME_DEC",   .frameDec,   0x00000031, 0xFFFFFFFF⟩ ]

/-- R86: "A word w selects a row when (w AND mask) = match." -/
def Row.selects (r : Row) (w : BitVec 32) : Bool := w &&& r.mask == r.pattern

/-- Why a word is no command (R87); both end in ILLEGAL_CMD. -/
inductive DecodeError where
  /-- OP (bits 7:0) is not in the map. -/
  | undefinedOpcode
  /-- OP is in the map and a reserved bit of its format is not zero. -/
  | reservedBits
deriving DecidableEq, Repr

/-- Bits 7:0 (R80). -/
def opField (w : BitVec 32) : BitVec 8 := w.extractLsb' 0 8

/-- WC, bits 9:8 of format I (R81, R82). -/
def wcField (w : BitVec 32) : IntWidth :=
  match (w.extractLsb' 8 2).toNat with
  | 0 => .w8
  | 1 => .w16
  | 2 => .w32
  | _ => .w64

/-- S, bit 12 of format I (R81, R83). -/
def sField (w : BitVec 32) : Bool := w.getLsbD 12

/-- FIDX, bits 19:16 of format F, read as an unsigned number (R81, R84). -/
def fidxField (w : BitVec 32) : Nat := (w.extractLsb' 16 4).toNat

/-- The command a word spells once its opcode is known. -/
def Op.assemble (op : Op) (w : BitVec 32) : Instr :=
  match op with
  | .nop => .nop
  | .intDec => .intDec (wcField w) (sField w)
  | .intEnc => .intEnc (wcField w) (sField w)
  | .flagConfig => .flagConfig
  | .flagGet => .flagGet (fidxField w)
  | .flagSet => .flagSet (fidxField w)
  | .optBegin => .optBegin
  | .optDec => .optDec
  | .optEnc => .optEnc
  | .optEnd => .optEnd
  | .frameEnc => .frameEnc
  | .frameDec => .frameDec

/-- Decoding, total on the 2^32 words (R86, R87). -/
def decode (w : BitVec 32) : Except DecodeError Instr :=
  match opcodeTable.find? (fun r => r.selects w) with
  | some r => .ok (r.op.assemble w)
  | none =>
    if opcodeTable.any (fun r => opField r.pattern == opField w) then .error .reservedBits
    else .error .undefinedOpcode

/-- The command word of a table row: `w`'s bits, bit 0 the least significant bit of the command word. The row's word is all 32
bits of a command (R80), so bits above 31 belong to no command. -/
def decodeTableWord (nbits w : Nat) : Option Instr :=
  if w % 2 ^ nbits < 2 ^ 32 then (decode (BitVec.ofNat 32 (w % 2 ^ nbits))).toOption else none

/-! ### The encoder (R81, R86, R88), written from the format tables -/

/-- WC of a width (R82). -/
def IntWidth.code : IntWidth → Nat
  | .w8 => 0
  | .w16 => 1
  | .w32 => 2
  | .w64 => 3

/-- Format I: OP in bits 7:0, WC in bits 9:8, S in bit 12. -/
def formatI (op : Nat) (width : IntWidth) (signed : Bool) : BitVec 32 :=
  BitVec.ofNat 32 (op + 2 ^ 8 * width.code + 2 ^ 12 * signed.toNat)

/-- Format F: OP in bits 7:0, FIDX in bits 19:16. -/
def formatF (op fidx : Nat) : BitVec 32 := BitVec.ofNat 32 (op + 2 ^ 16 * fidx)

/-- Format N: OP in bits 7:0 and nothing else. -/
def formatN (op : Nat) : BitVec 32 := BitVec.ofNat 32 op

/-- The command word of a well-formed command. INT_ENC keeps its S, which a disassembler prints (R88). -/
def encode : Instr → BitVec 32
  | .nop => formatN 0x00
  | .intDec width signed => formatI 0x01 width signed
  | .intEnc width signed => formatI 0x02 width signed
  | .flagConfig => formatN 0x10
  | .flagGet fidx => formatF 0x11 fidx
  | .flagSet fidx => formatF 0x12 fidx
  | .optBegin => formatN 0x20
  | .optDec => formatN 0x21
  | .optEnc => formatN 0x22
  | .optEnd => formatN 0x23
  | .frameEnc => formatN 0x30
  | .frameDec => formatN 0x31

end Sys2Proof
end

