-- ==== Sys2Proof/Config.lean ====
section
/-! DEFINITION. What the platform fixes for one BBF (the OPEN parameters of spec/00_scope.md R16 and spec/92_eei_decisions.md D37)
and the two free values of the spec (spec/93_implementation_defined.md I1 and I2). -/

namespace Sys2Proof

/-- The parameters a platform fixes. `bufBytes` is BUF_BYTES (R16, D37) and `apertureBase` is APERTURE_BASE (R61, I15).
They stand in State so that every statement holds for every legal value of them; no step changes them. -/
structure Config where
  bufBytes     : Nat
  apertureBase : Nat
deriving DecidableEq, Repr

/-- BUF_BYTES at its default 65536 (R16). The spec gives APERTURE_BASE no default: 0 is a DESIGN CHOICE (assumption 3). -/
def Config.default : Config := { bufBytes := 65536, apertureBase := 0 }

/-- R16: 16 <= BUF_BYTES <= 2^32, a multiple of 8. -/
abbrev Config.Legal (c : Config) : Prop := 16 ≤ c.bufBytes ∧ c.bufBytes ≤ 2 ^ 32 ∧ c.bufBytes % 8 = 0

/-- FREE VALUE (R230, I1): the byte that address `a` of BUF holds after the hard reset number `draw`, until something writes it.
Nothing constrains it (assumption 1). -/
opaque Config.freeBuf : Nat → Nat → BitVec 8

/-- FREE VALUE (R72, R235, I2): what the host reads, in the bits the spec leaves unspecified while BUSY = 1, at the draw number
given. Nothing constrains it (assumption 2). -/
opaque Config.freeRead : Nat → BitVec 64

end Sys2Proof
end

