-- ==== Sys2Proof/Machine/State.lean ====
section
/-! DEFINITION. The architectural state of the BBF (spec/10_state.md R20 to R43), the reset state (R41), and the reasons a step
can stop. Registers made of fields are structures of their fields: reserved bits read 0 and ignore writes (R40), so they hold
nothing; Machine/Registers.lean gives every register's bit layout. -/

namespace Sys2Proof.Machine

/-- Why a step faults. No command faults: a command that fails ends with an error code in STATUS (spec/60_exceptions.md R214). -/
inductive Fault where
  /-- Raised by a host access whose bus address lies below APERTURE_BASE, outside the aperture of R61. Safe: the model stops. -/
  | outsideAperture
deriving DecidableEq, Repr

/-- Why a step is refused. -/
inductive Refusal where
  /-- Raised by an arm of `exec` for a command with no meaning yet. Safe: the model stops. -/
  | notModelled (mnemonic : String)
  /-- Raised by a host access to the register space that is not 8 bytes wide at an 8-aligned offset (R67: "The model refuses it:
  it has no step and the host agent is stuck"). Safe: the model stops. -/
  | registerAccess
deriving DecidableEq, Repr

/-- CTRL.POLICY, the strictness policy (R24); the numbers 0 to 3 are given in Machine/Registers.lean. -/
inductive Policy where
  | ignore | warn | fix | fail
deriving DecidableEq, Repr

/-- CTRL (R22 to R26). SRST always reads 0 and holds nothing. -/
structure Ctrl where
  bo      : ByteOrder
  bov     : Bool
  policy  : Policy
  dupkeep : Bool
  ieDone  : Bool
  ieErr   : Bool
  ieWarn  : Bool
deriving DecidableEq, Repr

/-- STATUS.ERRCODE's values (spec/60_exceptions.md R201). -/
inductive ErrorCode where
  | ok
  | frameLengthMismatch
  | lengthMismatch
  | badMagic
  | policyFail
  | usageError
  | illegalCmd
  | noSection
  | truncated
  | frameLengthInvalid
  | bounds
deriving DecidableEq, Repr

/-- STATUS.PROBCODE's values (R210). -/
inductive ProblemCode where
  | none
  | dupOption
deriving DecidableEq, Repr

/-- STATUS (R27). -/
structure Status where
  busy     : Bool
  done     : Bool
  err      : Bool
  warn     : Bool
  problem  : Bool
  ovr      : Bool
  errcode  : ErrorCode
  probcode : ProblemCode
deriving DecidableEq, Repr

/-- INFO (R30). -/
structure Info where
  eos         : Bool
  shb         : Bool
  detbo       : ByteOrder
  endMark     : Bool
  implicitEnd : Bool
  known       : Bool
  dup         : Bool
  discard     : Bool
  supersedes  : Bool
  didx        : BitVec 5
  type        : BitVec 5
  invalid     : Bool
deriving DecidableEq, Repr

/-- One entry of the recognised-option table (R35). -/
structure OptDesc where
  code  : BitVec 16
  kind  : BitVec 8
  type  : BitVec 5
  mult  : Bool
  valid : Bool
deriving DecidableEq, Repr

/-- FW_FIELD[j].KIND (R38). -/
inductive FieldKind where
  | bool | uint | enum | reserved
deriving DecidableEq, Repr

/-- FW_CFG (R37). -/
structure FwCfg where
  w     : BitVec 7
  nf    : BitVec 5
  valid : Bool
deriving DecidableEq, Repr

/-- FW_FIELD[j] (R38). -/
structure FwField where
  kind   : FieldKind
  width  : BitVec 7
  nsym   : BitVec 16
  offset : BitVec 6
deriving DecidableEq, Repr

/-- BUF's written bytes: (address, byte) pairs, addresses strictly rising. An unlisted address holds no byte written since the
last hard reset; what it reads as is `byteAt` in Machine/Ops.lean. -/
abbrev Memory := List Host.Cell

/-- The width of one host access: 1, 2, 4 or 8 bytes (R64, R68). -/
inductive AccessWidth where
  | b1 | b2 | b4 | b8
deriving DecidableEq, Repr

/-- The registers of the aperture (spec/10_state.md section 2). -/
inductive Reg where
  | id | ctrl | status | problemCnt | cmd | info
  | arg0 | arg1 | arg2 | arg3
  | res0 | res1 | res2 | res3
  | optKind | optSeen | fwValue | fwCfg
  | optDesc (i : Nat)
  | fwField (j : Nat)
  | reserved
deriving DecidableEq, Repr

/-- Who moves next, and with what (R71, R72, R218): one host access, the platform's reset input (R230), or the engine. -/
inductive Turn where
  /-- A host write of the low bytes of `v` at a bus address. -/
  | write (addr : Nat) (width : AccessWidth) (v : Word)
  /-- A host read at a bus address. -/
  | read (addr : Nat) (width : AccessWidth)
  /-- Power-on or the platform's reset input. -/
  | hardReset
  /-- The engine's turn: it performs the latched command, if one is latched. -/
  | engine
deriving DecidableEq, Repr

/-- The machine's state. The fields from `ctrl` to `buf` are the spec's (R20 to R39); `cfg` holds the OPEN parameters (R16);
`bufDraw`, `readDraw`, `turns` and `busRead` are the model's own. ID is a constant and irq a function of STATUS and CTRL, so
neither is stored. -/
structure State where
  cfg        : Config
  ctrl       : Ctrl
  status     : Status
  problemCnt : Word
  cmd        : BitVec 32
  info       : Info
  arg0       : Word
  arg1       : Word
  arg2       : Word
  arg3       : Word
  res0       : Word
  res1       : Word
  res2       : Word
  res3       : Word
  optKind    : BitVec 8
  optSeen    : BitVec 32
  optDesc    : Vector OptDesc 32
  fwValue    : Word
  fwCfg      : FwCfg
  fwField    : Vector FwField 16
  buf        : Memory
  /-- MODEL's own: which draw the unwritten bytes of BUF read from; a hard reset moves on to the next (assumption 1). -/
  bufDraw    : Nat
  /-- MODEL's own: how many host reads have been made while BUSY = 1 (assumption 2). -/
  readDraw   : Nat
  /-- MODEL's own: the turns still to come, the next one first (assumption 4). -/
  turns      : List Turn
  /-- MODEL's own: the datum the latest host read returned (assumption 5). -/
  busRead    : Word
deriving DecidableEq, Repr

/-- CTRL after reset (R41): LE, no section, FAIL, keep first, no interrupt enabled. -/
def Ctrl.reset : Ctrl :=
  { bo := .le, bov := false, policy := .fail, dupkeep := false, ieDone := false, ieErr := false, ieWarn := false }

/-- STATUS after reset (R27, R41): every field 0. -/
def Status.reset : Status :=
  { busy := false, done := false, err := false, warn := false, problem := false, ovr := false,
    errcode := .ok, probcode := .none }

/-- INFO with every bit 0 (R30). -/
def Info.zero : Info :=
  { eos := false, shb := false, detbo := .le, endMark := false, implicitEnd := false, known := false, dup := false,
    discard := false, supersedes := false, didx := 0, type := 0, invalid := false }

/-- An OPT_DESC entry of value 0 (R35). -/
def OptDesc.zero : OptDesc := { code := 0, kind := 0, type := 0, mult := false, valid := false }

/-- FW_CFG of value 0 (R37). -/
def FwCfg.zero : FwCfg := { w := 0, nf := 0, valid := false }

/-- An FW_FIELD entry of value 0 (R38). -/
def FwField.zero : FwField := { kind := .bool, width := 0, nsym := 0, offset := 0 }

/-- The state right after a hard reset (R41, R230), at the default parameters, with no turn waiting. BUF is the draw number 0. -/
def State.reset : State :=
  { cfg := Config.default
    ctrl := Ctrl.reset
    status := Status.reset
    problemCnt := 0
    cmd := 0
    info := Info.zero
    arg0 := 0
    arg1 := 0
    arg2 := 0
    arg3 := 0
    res0 := 0
    res1 := 0
    res2 := 0
    res3 := 0
    optKind := 0
    optSeen := 0
    optDesc := Vector.replicate 32 OptDesc.zero
    fwValue := 0
    fwCfg := FwCfg.zero
    fwField := Vector.replicate 16 FwField.zero
    buf := []
    bufDraw := 0
    readDraw := 0
    turns := []
    busRead := 0 }

end Sys2Proof.Machine
end

