-- ==== Sys2Proof/Machine/Flags.lean ====
section
/-! DEFINITION. Every computation on STATUS and the interrupt line: problem reports, completion and irq (spec/60_exceptions.md
R206 to R213, R216; spec/10_state.md R27, R28, R44). -/

namespace Sys2Proof.Machine

/-- PROBLEM_CNT after one more problem: it saturates at 2^64 - 1 (R28, R206). -/
def bumpCount (n : Word) : Word := if n = BitVec.allOnes 64 then n else n + 1

/-- The bookkeeping of `report Problem(p)` (R206): the count, PROBLEM and PROBCODE under every policy, and WARN under
POLICY = WARN (R209). What the policy then makes of the command is `multiplicity` in Machine/Options.lean (R207 to R209). -/
def State.report (s : State) (p : ProblemCode) : State :=
  { s with
    problemCnt := bumpCount s.problemCnt
    status := { s.status with problem := true, probcode := p, warn := s.status.warn || s.ctrl.policy == .warn } }

/-- Completion (R212): ERRCODE, DONE, ERR when the code is not 0, and BUSY = 0, in one step. -/
def State.finish (s : State) (e : ErrorCode) : State :=
  { s with
    status := { s.status with busy := false, done := true, err := s.status.err || e != .ok, errcode := e } }

/-- The interrupt output (R213, R216), a function of STATUS and CTRL. -/
def State.irq (s : State) : Bool :=
  (s.status.done && s.ctrl.ieDone) || (s.status.err && s.ctrl.ieErr) || (s.status.warn && s.ctrl.ieWarn)

end Sys2Proof.Machine
end

