-- ==== Sys2Proof/Machine/Operands.lean ====
section
/-! DEFINITION. The operand forms and codec primitives of spec/00_scope.md R17: ARG registers read whole as unsigned values (R31,
R85), the length arithmetic on unbounded integers (R104), and the byte and bit primitives every command uses. -/

namespace Sys2Proof

/-- The byte count n = 2^WC of an integer width (R82). -/
def IntWidth.bytes : IntWidth → Nat
  | .w8 => 1
  | .w16 => 2
  | .w32 => 4
  | .w64 => 8

namespace Machine

/-- The byte count of a host access (R64). -/
def AccessWidth.bytes : AccessWidth → Nat
  | .b1 => 1
  | .b2 => 2
  | .b4 => 4
  | .b8 => 8

/-- `ceil4(x) = 4 * ((x + 3) div 4)` (R17). -/
def ceil4 (x : Nat) : Nat := 4 * ((x + 3) / 4)

/-- `pad4(x) = ceil4(x) - x` (R17). -/
def pad4 (x : Nat) : Nat := ceil4 x - x

/-- `mask(w) = 2^w - 1` (R17). -/
def ones (w : Nat) : Word := BitVec.ofNat 64 (2 ^ w - 1)

/-- `zeros(n)`: n bytes of 0x00 (R17). -/
def zeros (n : Nat) : List Byte := List.replicate n 0

/-- FromBytes(bs, LE) (R17). -/
def fromBytesLE : List Byte → Nat
  | [] => 0
  | b :: bs => b.toNat + 256 * fromBytesLE bs

/-- FromBytes(bs, ord) (R17): the unsigned integer that bytes spell. -/
def fromBytes (ord : ByteOrder) (bs : List Byte) : Nat :=
  match ord with
  | .le => fromBytesLE bs
  | .be => fromBytesLE bs.reverse

/-- ToBytes(v, n, LE) (R17), the count first. -/
def toBytesLE : Nat → Nat → List Byte
  | 0, _ => []
  | n + 1, v => BitVec.ofNat 8 v :: toBytesLE n (v / 256)

/-- ToBytes(v, n, ord) (R17). -/
def toBytes (v n : Nat) (ord : ByteOrder) : List Byte :=
  match ord with
  | .le => toBytesLE n v
  | .be => (toBytesLE n v).reverse

/-- `trunc_64(sext_w(u))` (R17), for u < 2^w. -/
def sext (w u : Nat) : Word := BitVec.ofInt 64 (if u < 2 ^ (w - 1) then (u : Int) else (u : Int) - 2 ^ w)

/-- ARG0 as the cursor or base address of a stream command (R85). -/
def State.cursor (s : State) : Nat := s.arg0.toNat

/-- ARG1 as the limit: the first address the command may not touch (R18, R85). -/
def State.limit (s : State) : Nat := s.arg1.toNat

/-- ARG2 as a value: a type, an option code or an integer (R85). -/
def State.value (s : State) : Nat := s.arg2.toNat

/-- ARG3 as a length (R85). -/
def State.len (s : State) : Nat := s.arg3.toNat

/-- The first check of every stream command: `lim > BUF_BYTES or a > lim` (R102 and the other command rules, D22). -/
abbrev State.CursorBad (s : State) : Prop := s.limit > s.cfg.bufBytes ∨ s.cursor > s.limit

/-- FW_FIELD[j] (R38). The register file has 16 entries; a command only asks for j < NF <= 16. -/
def State.field (s : State) (j : Nat) : FwField := (s.fwField[j]?).getD FwField.zero

/-- FW_CFG.NF as a number (R37). -/
def State.nf (s : State) : Nat := s.fwCfg.nf.toNat

end Machine

end Sys2Proof
end

