-- ==== Sys2Proof/Machine/Ops.lean ====
section
/-! DEFINITION. The shared operations: BUF (spec/10_state.md R39, spec/00_scope.md R17), the start and the end of every command
(spec/40_integer_codec.md R100, spec/60_exceptions.md R211 and R212), and the two resets (spec/70_reset_and_hazards.md R230, R231).
An error is this machine's only exception: it is recorded by `complete` (R214), and nothing returns from it (R215). -/

namespace Sys2Proof.Machine

/-! ### BUF -/

/-- The canonical form of BUF's written bytes: addresses strictly rising. -/
abbrev Memory.wf (m : Memory) : Prop := m.Pairwise (fun p q => p.1 < q.1)

/-- The byte written at an address since the last hard reset, if any. -/
def Memory.get? : Memory → Nat → Option Byte
  | [], _ => none
  | (b, v) :: m, a => if a = b then some v else Memory.get? m a

/-- Write one byte, keeping the canonical form. -/
def Memory.put : Memory → Nat → Byte → Memory
  | [], a, v => [(a, v)]
  | (b, w) :: m, a, v =>
    if a < b then (a, v) :: (b, w) :: m
    else if a = b then (a, v) :: m
    else (b, w) :: Memory.put m a v

/-- Write consecutive bytes, the first at `a`. -/
def Memory.putAll : Memory → Nat → List Byte → Memory
  | m, _, [] => m
  | m, a, v :: vs => Memory.putAll (Memory.put m a v) (a + 1) vs

/-- BUF[a]. A byte that nothing has written since the last hard reset is a draw (R230, I1): a free value (assumption 1). -/
def State.byteAt (s : State) (a : Nat) : Byte := (Memory.get? s.buf a).getD (Config.freeBuf s.bufDraw a)

/-- `MemRead(a, n)` (R17). -/
def State.load (s : State) (a n : Nat) : List Byte := (List.range n).map (fun i => s.byteAt (a + i))

/-- `MemWrite(a, n, bs)` with n the length of bs (R17). -/
def State.store (s : State) (a : Nat) (bs : List Byte) : State := { s with buf := Memory.putAll s.buf a bs }

/-- `FromBytes(MemRead(a, n), ord)`. -/
def State.loadInt (s : State) (ord : ByteOrder) (a n : Nat) : Nat := fromBytes ord (s.load a n)

/-! ### A command's start and end -/

/-- How a command's pseudocode ends (R17): `commit` with its staged effects, or `raise` with an error code and the problem it had
reported before, if any. -/
inductive CmdEnd where
  | commit (staged : State)
  | raise (e : ErrorCode) (reported : Option ProblemCode)
deriving DecidableEq, Repr

/-- The common start (R100): INFO is set to 0. -/
def State.start (s : State) : State := { s with info := Info.zero }

/-- The end of a command (R211, R212). A commit takes effect whole. A raise discards every staged effect and keeps only the
bookkeeping of a problem reported before it; INFO stays 0. -/
def complete (started : State) : CmdEnd → State
  | .commit staged => staged.finish .ok
  | .raise e none => started.finish e
  | .raise e (some p) => (started.report p).finish e

/-- One command as one atomic engine step (R218): the common start, the pseudocode, the completion. -/
def runCommand (body : State → CmdEnd) (s : State) : Host.Outcome State Fault Refusal :=
  .next (complete s.start (body s.start))

/-! ### Resets -/

/-- R230: every register takes its reset value, a latched command is cancelled, BUF is drawn anew. The parameters, the turns still
to come and what the host has read are not the BBF's to reset. -/
def State.hardReset (s : State) : State :=
  { State.reset with
    cfg := s.cfg, bufDraw := s.bufDraw + 1, readDraw := s.readDraw, turns := s.turns, busRead := s.busRead }

/-- R231: as the hard reset in every register; BUF is left unchanged. -/
def State.softReset (s : State) : State :=
  { State.reset with
    cfg := s.cfg, buf := s.buf, bufDraw := s.bufDraw, readDraw := s.readDraw, turns := s.turns, busRead := s.busRead }

end Sys2Proof.Machine
end

