-- ==== Sys2Proof/Machine/FlagWord.lean ====
section
/-! DEFINITION. The flag word: FLAG_CONFIG, FLAG_GET and FLAG_SET (spec/41_flagword.md R120 to R124). -/

namespace Sys2Proof.Machine

/-- The checks of R121 on one sub-field: its kind, its width and its symbol count. -/
def FwField.legal (f : FwField) : Bool :=
  match f.kind with
  | .bool => f.width.toNat == 1
  | .uint => decide (1 ≤ f.width.toNat) && decide (f.width.toNat ≤ 64)
  | .enum =>
    decide (2 ≤ f.width.toNat) && decide (f.width.toNat ≤ 64)
      && decide (1 ≤ f.nsym.toNat) && decide (f.nsym.toNat ≤ 2 ^ f.width.toNat)
  | .reserved => false

/-- The sum of the widths of the first j sub-fields: OFFSET_j of R120, and for j = NF the schema's total width. -/
def State.offsetOf (s : State) (j : Nat) : Nat := ((s.fwField.toList.take j).map (fun f => f.width.toNat)).sum

/-- The schema's sub-fields, entries 0..NF-1 in schema order (R38). -/
def State.schema (s : State) : List FwField := s.fwField.toList.take s.nf

/-- R121's pseudocode. All its errors carry one code, so the order of the checks does not show. -/
def flagConfigBody (s : State) : CmdEnd :=
  if s.fwCfg.w.toNat < 1 ∨ s.fwCfg.w.toNat > 64 then .raise .usageError none
  else if s.nf > 16 then .raise .usageError none
  else if s.schema.all FwField.legal = false then .raise .usageError none
  else if s.offsetOf s.nf > s.fwCfg.w.toNat then .raise .usageError none
  else
    .commit { s with
      fwField := s.fwField.mapIdx (fun j f => if j < s.nf then { f with offset := BitVec.ofNat 6 (s.offsetOf j) } else f)
      fwCfg := { s.fwCfg with valid := true } }

/-- R121. -/
def execFlagConfig (s : State) : Host.Outcome State Fault Refusal := runCommand flagConfigBody s

/-- The zero-extended bits o+n-1..o of FW_VALUE (R122). -/
def FwField.extract (f : FwField) (v : Word) : Word := (v >>> f.offset.toNat) &&& ones f.width.toNat

/-- An ENUM sub-field holding an index at or past its symbol count (R122, R123, INFO.INVALID). -/
def FwField.invalid (f : FwField) (r : Word) : Bool := f.kind == .enum && decide (r.toNat ≥ f.nsym.toNat)

/-- R122's pseudocode. -/
def flagGetBody (fidx : Nat) (s : State) : CmdEnd :=
  if s.fwCfg.valid = false then .raise .usageError none
  else if fidx ≥ s.nf then .raise .usageError none
  else
    let r := (s.field fidx).extract s.fwValue
    .commit { s with res0 := r, info := { s.info with invalid := (s.field fidx).invalid r } }

/-- R122. -/
def execFlagGet (fidx : Nat) (s : State) : Host.Outcome State Fault Refusal := runCommand (flagGetBody fidx) s

/-- The value a sub-field stores for v (R123): BOOL is coerced to 0 or 1, UINT and ENUM are masked to n bits. -/
def FwField.coerce (f : FwField) (v : Word) : Word :=
  match f.kind with
  | .bool => if v = 0 then 0 else 1
  | .uint => v &&& ones f.width.toNat
  | .enum => v &&& ones f.width.toNat
  | .reserved => v &&& ones f.width.toNat

/-- FW_VALUE with the sub-field's bits replaced by b and every other bit kept (R123, R124). -/
def FwField.insert (f : FwField) (old b : Word) : Word :=
  (old &&& ~~~(ones f.width.toNat <<< f.offset.toNat)) ||| (b <<< f.offset.toNat)

/-- R123's pseudocode. -/
def flagSetBody (fidx : Nat) (s : State) : CmdEnd :=
  if s.fwCfg.valid = false then .raise .usageError none
  else if fidx ≥ s.nf then .raise .usageError none
  else
    let b := (s.field fidx).coerce s.arg0
    let v := (s.field fidx).insert s.fwValue b
    .commit { s with fwValue := v, res0 := v, info := { s.info with invalid := (s.field fidx).invalid b } }

/-- R123. -/
def execFlagSet (fidx : Nat) (s : State) : Host.Outcome State Fault Refusal := runCommand (flagSetBody fidx) s

end Sys2Proof.Machine
end

