-- ==== Sys2Proof/Machine/Options.lean ====
section
/-! DEFINITION. The options TLV codec: OPT_BEGIN, OPT_DEC, OPT_ENC and OPT_END, with recognition and the multiplicity check
(spec/42_options.md R140 to R146). -/

namespace Sys2Proof.Machine

/-- R141: a valid entry of the selected kind whose CODE is the record's. -/
def OptDesc.recognises (d : OptDesc) (kind : BitVec 8) (code : Nat) : Bool :=
  d.valid && d.kind == kind && d.code.toNat == code

/-- The first recognising entry of a table whose first entry has index i. -/
def lookupFrom (kind : BitVec 8) (code : Nat) : Nat → List OptDesc → Option (Nat × OptDesc)
  | _, [] => none
  | i, d :: ds => if d.recognises kind code then some (i, d) else lookupFrom kind code (i + 1) ds

/-- `Lookup(code)` (R141): the least recognising index with its entry, or none. -/
def State.lookup (s : State) (code : Nat) : Option (Nat × OptDesc) := lookupFrom s.optKind code 0 s.optDesc.toList

/-- The direction of the multiplicity check (R142). -/
inductive Direction where
  | dec
  | enc
deriving DecidableEq, Repr

/-- What the multiplicity check returns (R142): the staged state with ACCEPT or DISCARD, or the raise of POLICY_FAIL. -/
inductive Verdict where
  | accept (staged : State)
  | discard (staged : State)
  | policyFail
deriving DecidableEq, Repr

/-- INFO and state of a recognised record: KNOWN, DIDX and TYPE (R141). -/
def State.known (s : State) (i : Nat) (d : OptDesc) : State :=
  { s with info := { s.info with known := true, didx := BitVec.ofNat 5 i, type := d.type } }

/-- OPT_SEEN[i] <- 1 (R142). -/
def State.markSeen (s : State) (i : Nat) : State := { s with optSeen := s.optSeen ||| (1#32 <<< i) }

/-- R142's pseudocode. -/
def multiplicity (hit : Option (Nat × OptDesc)) (dir : Direction) (s : State) : Verdict :=
  match hit with
  | none => .accept s
  | some (i, d) =>
    if d.mult = true then .accept ((s.known i d).markSeen i)
    else if s.optSeen.getLsbD i = false then .accept ((s.known i d).markSeen i)
    else if s.ctrl.policy = .fail then .policyFail
    else
      let t := (s.known i d).report .dupOption
      let t := { t with info := { t.info with dup := true } }
      if s.ctrl.policy = .fix then
        if dir = .dec ∧ s.ctrl.dupkeep = true then .accept { t with info := { t.info with supersedes := true } }
        else .discard { t with info := { t.info with discard := true } }
      else .accept t

/-- The four result registers of a command that names them all. -/
def State.results (s : State) (r0 r1 r2 r3 : Nat) : State :=
  { s with
    res0 := BitVec.ofNat 64 r0, res1 := BitVec.ofNat 64 r1, res2 := BitVec.ofNat 64 r2, res3 := BitVec.ofNat 64 r3 }

/-- R143. -/
def execOptBegin (s : State) : Host.Outcome State Fault Refusal := runCommand (fun t => .commit { t with optSeen := 0 }) s

/-- The bytes of a record with value length len: `4 + ceil4(len)` (R140). -/
def recordBytes (len : Nat) : Nat := 4 + ceil4 len

/-- The code of the record at an address, in the section byte order (R140). -/
def State.codeAt (s : State) (c : Nat) : Nat := s.loadInt s.ctrl.bo c 2

/-- The declared length of the record at an address (R140). -/
def State.lenAt (s : State) (c : Nat) : Nat := s.loadInt s.ctrl.bo (c + 2) 2

/-- R144's pseudocode. -/
def optDecBody (s : State) : CmdEnd :=
  if s.ctrl.bov = false then .raise .noSection none
  else if s.CursorBad then .raise .bounds none
  else if s.limit - s.cursor = 0 then
    .commit { s.results 0 0 s.cursor s.cursor with info := { s.info with endMark := true, implicitEnd := true } }
  else if s.limit - s.cursor < 4 then .raise .lengthMismatch none
  else if s.codeAt s.cursor = 0 ∧ s.lenAt s.cursor = 0 then
    .commit { s.results 0 0 (s.cursor + 4) (s.cursor + 4) with info := { s.info with endMark := true } }
  else if recordBytes (s.lenAt s.cursor) > s.limit - s.cursor then .raise .lengthMismatch none
  else
    let accepted := fun (t : State) =>
      t.results (s.codeAt s.cursor) (s.lenAt s.cursor) (s.cursor + 4) (s.cursor + recordBytes (s.lenAt s.cursor))
    match multiplicity (s.lookup (s.codeAt s.cursor)) .dec s with
    | .accept t => .commit (accepted t)
    | .discard t => .commit (accepted t)
    | .policyFail => .raise .policyFail (some .dupOption)

/-- R144. -/
def execOptDec (s : State) : Host.Outcome State Fault Refusal := runCommand optDecBody s

/-- The bytes OPT_ENC writes (R145): code and length at c, padding after the value. -/
def State.storeRecord (s : State) (ord : ByteOrder) (c code len : Nat) : State :=
  (((s.store c (toBytes code 2 ord)).store (c + 2) (toBytes len 2 ord)).store (c + 4 + len) (zeros (pad4 len)))

/-- R145's pseudocode. -/
def optEncBody (s : State) : CmdEnd :=
  if s.ctrl.bov = false then .raise .noSection none
  else if s.CursorBad then .raise .bounds none
  else if s.value = 0 ∨ s.value > 0xFFFF ∨ s.len > 0xFFFF then .raise .usageError none
  else if s.cursor + recordBytes s.len > s.limit then .raise .bounds none
  else
    match multiplicity (s.lookup s.value) .enc s with
    | .accept t =>
      .commit ((t.storeRecord s.ctrl.bo s.cursor s.value s.len).results
        s.value s.len (s.cursor + 4) (s.cursor + recordBytes s.len))
    | .discard t => .commit (t.results s.value s.len (s.cursor + 4) s.cursor)
    | .policyFail => .raise .policyFail (some .dupOption)

/-- R145. -/
def execOptEnc (s : State) : Host.Outcome State Fault Refusal := runCommand optEncBody s

/-- R146's pseudocode. -/
def optEndBody (s : State) : CmdEnd :=
  if s.CursorBad then .raise .bounds none
  else if s.cursor + 4 > s.limit then .raise .bounds none
  else
    .commit { (s.store s.cursor (zeros 4)).results 0 0 (s.cursor + 4) (s.cursor + 4) with
      info := { s.info with endMark := true } }

/-- R146. -/
def execOptEnd (s : State) : Host.Outcome State Fault Refusal := runCommand optEndBody s

end Sys2Proof.Machine
end

