-- ==== Sys2Proof/Machine/Framer.lean ====
section
/-! DEFINITION. The block framer: FRAME_ENC and FRAME_DEC with byte-order detection (spec/43_framer.md R170 to R177). -/

namespace Sys2Proof.Machine

/-- The length encode law `T = 12 + ceil4(L)` (R171). -/
def totalLength (bodyLen : Nat) : Nat := 12 + ceil4 bodyLen

/-- The bytes FRAME_ENC writes (R170, R174): type, leading length, padding, trailing length. -/
def State.storeFrame (s : State) (ord : ByteOrder) (base type bodyLen : Nat) : State :=
  (((s.store base (toBytes type 4 ord)).store (base + 4) (toBytes (totalLength bodyLen) 4 ord)).store
    (base + 8 + bodyLen) (zeros (pad4 bodyLen))).store
    (base + 8 + ceil4 bodyLen) (toBytes (totalLength bodyLen) 4 ord)

/-- R174's pseudocode. -/
def frameEncBody (s : State) : CmdEnd :=
  if s.ctrl.bov = false then .raise .noSection none
  else if s.CursorBad then .raise .bounds none
  else if s.value > 0xFFFFFFFF then .raise .usageError none
  else if totalLength s.len > 0xFFFFFFFF then .raise .usageError none
  else if s.cursor + totalLength s.len > s.limit then .raise .bounds none
  else
    .commit ((s.storeFrame s.ctrl.bo s.cursor s.value s.len).results
      s.value (totalLength s.len) (totalLength s.len - 12) (s.cursor + totalLength s.len))

/-- R174. -/
def execFrameEnc (s : State) : Host.Outcome State Fault Refusal := runCommand frameEncBody s

/-- The type bytes by which a Section Header is recognised (R176). -/
def shbTypeBytes : List Byte := [0x0A, 0x0D, 0x0D, 0x0A]

/-- The byte-order magic (R176). -/
def byteOrderMagic : Nat := 0x1A2B3C4D

/-- `DetectOrder(m)` (R176); none is the raise of BAD_MAGIC. -/
def detectOrder (m : List Byte) : Option ByteOrder :=
  if fromBytes .le m = byteOrderMagic then some .le
  else if fromBytes .be m = byteOrderMagic then some .be
  else none

/-- The section transition of R177: CTRL.BO, CTRL.BOV, INFO.SHB and INFO.DETBO. -/
def State.openSection (s : State) (ord : ByteOrder) : State :=
  { s with
    ctrl := { s.ctrl with bo := ord, bov := true }
    info := { s.info with shb := true, detbo := ord } }

/-- Where the trailing length of a frame with leading length T stands (R172): frame offset `8 + ceil4(T - 12)`. -/
def trailerOffset (total : Nat) : Nat := 8 + ceil4 (total - 12)

/-- R175's pseudocode from the leading length on, once the byte order is known. -/
def frameDecIn (ord : ByteOrder) (shb : Bool) (s : State) : CmdEnd :=
  let total := s.loadInt ord (s.cursor + 4) 4
  if total < 12 then .raise .frameLengthInvalid none
  else if shb = true ∧ total < 16 then .raise .frameLengthInvalid none
  else if s.cursor + trailerOffset total + 4 > s.limit then .raise .truncated none
  else if s.loadInt ord (s.cursor + trailerOffset total) 4 ≠ total then .raise .frameLengthMismatch none
  else
    let t := s.results (s.loadInt ord s.cursor 4) total (total - 12) (s.cursor + trailerOffset total + 4)
    .commit (if shb then t.openSection ord else t)

/-- R175's pseudocode. -/
def frameDecBody (s : State) : CmdEnd :=
  if s.CursorBad then .raise .bounds none
  else if s.limit - s.cursor = 0 then .commit { s.results 0 0 0 s.cursor with info := { s.info with eos := true } }
  else if s.limit - s.cursor < 8 then .raise .truncated none
  else if s.load s.cursor 4 = shbTypeBytes then
    if s.limit - s.cursor < 12 then .raise .truncated none
    else
      match detectOrder (s.load (s.cursor + 8) 4) with
      | none => .raise .badMagic none
      | some ord => frameDecIn ord true s
  else if s.ctrl.bov = false then .raise .noSection none
  else frameDecIn s.ctrl.bo false s

/-- R175. -/
def execFrameDec (s : State) : Host.Outcome State Fault Refusal := runCommand frameDecBody s

end Sys2Proof.Machine
end

