-- ==== Sys2Proof/Machine/IntegerCodec.lean ====
section
/-! DEFINITION. NOP, an illegal word, and the integer field codec (spec/40_integer_codec.md R100 to R103, spec/30_encoding.md R87). -/

namespace Sys2Proof.Machine

/-- R101. -/
def execNop (s : State) : Host.Outcome State Fault Refusal := runCommand (fun t => .commit t) s

/-- A word that is no command completes with ILLEGAL_CMD (R87, R100); it is no constructor of `Instr`. -/
def execIllegal (s : State) : Host.Outcome State Fault Refusal := runCommand (fun _ => .raise .illegalCmd none) s

/-- The value INT_DEC gives for the n bytes' unsigned reading u (R83, R102). -/
def decodedValue (width : IntWidth) (signed : Bool) (u : Nat) : Word :=
  if signed then sext (8 * width.bytes) u else BitVec.ofNat 64 u

/-- R102's pseudocode. -/
def intDecBody (width : IntWidth) (signed : Bool) (s : State) : CmdEnd :=
  if s.ctrl.bov = false then .raise .noSection none
  else if s.CursorBad then .raise .bounds none
  else if s.cursor + width.bytes > s.limit then .raise .bounds none
  else
    .commit { s with
      res0 := decodedValue width signed (s.loadInt s.ctrl.bo s.cursor width.bytes)
      res3 := BitVec.ofNat 64 (s.cursor + width.bytes) }

/-- R102. -/
def execIntDec (width : IntWidth) (signed : Bool) (s : State) : Host.Outcome State Fault Refusal :=
  runCommand (intDecBody width signed) s

/-- `x[ARG2] mod 2^w` (R103). -/
def truncated (width : IntWidth) (s : State) : Nat := s.value % 2 ^ (8 * width.bytes)

/-- R103's pseudocode. -/
def intEncBody (width : IntWidth) (s : State) : CmdEnd :=
  if s.ctrl.bov = false then .raise .noSection none
  else if s.CursorBad then .raise .bounds none
  else if s.cursor + width.bytes > s.limit then .raise .bounds none
  else
    .commit { s.store s.cursor (toBytes (truncated width s) width.bytes s.ctrl.bo) with
      res0 := BitVec.ofNat 64 (truncated width s)
      res3 := BitVec.ofNat 64 (s.cursor + width.bytes) }

/-- R103. S has no effect on INT_ENC (R83). -/
def execIntEnc (width : IntWidth) (_signed : Bool) (s : State) : Host.Outcome State Fault Refusal :=
  runCommand (intEncBody width) s

end Sys2Proof.Machine
end

