-- ==== Sys2Proof/Machine/Dispatch.lean ====
section
/-! DEFINITION. One arm per command: the meaning the engine performs for it. -/

namespace Sys2Proof.Machine

def exec (i : Instr) (s : State) : Host.Outcome State Fault Refusal :=
  match i with
  | .nop => Sys2Proof.Machine.execNop s
  | .intDec width signed => Sys2Proof.Machine.execIntDec width signed s
  | .intEnc width signed => Sys2Proof.Machine.execIntEnc width signed s
  | .flagConfig => Sys2Proof.Machine.execFlagConfig s
  | .flagGet fidx => Sys2Proof.Machine.execFlagGet fidx s
  | .flagSet fidx => Sys2Proof.Machine.execFlagSet fidx s
  | .optBegin => Sys2Proof.Machine.execOptBegin s
  | .optDec => Sys2Proof.Machine.execOptDec s
  | .optEnc => Sys2Proof.Machine.execOptEnc s
  | .optEnd => Sys2Proof.Machine.execOptEnd s
  | .frameEnc => Sys2Proof.Machine.execFrameEnc s
  | .frameDec => Sys2Proof.Machine.execFrameDec s

end Sys2Proof.Machine
end

