-- ==== Sys2Proof/Machine/Registers.lean ====
section
/-! DEFINITION. The register map: every register's offset and the place of every field in its 64-bit word (spec/10_state.md section 2
and R21 to R40). Bits that no field occupies read 0 and ignore writes (R40). -/

namespace Sys2Proof.Machine

/-- One bit of a register word. -/
def bitAt (b : Bool) (pos : Nat) : Word := if b then 1#64 <<< pos else 0#64

/-- A field of a register word, its lowest bit at `pos`. -/
def fieldAt {n : Nat} (v : BitVec n) (pos : Nat) : Word := v.setWidth 64 <<< pos

/-- The aperture's register offsets (spec/10_state.md section 2). Every other 8-aligned offset below 0x10000 is reserved (R40). -/
def regAt (off : Nat) : Reg :=
  if off = 0x000 then .id
  else if off = 0x008 then .ctrl
  else if off = 0x010 then .status
  else if off = 0x018 then .problemCnt
  else if off = 0x020 then .cmd
  else if off = 0x028 then .info
  else if off = 0x030 then .arg0
  else if off = 0x038 then .arg1
  else if off = 0x040 then .arg2
  else if off = 0x048 then .arg3
  else if off = 0x050 then .res0
  else if off = 0x058 then .res1
  else if off = 0x060 then .res2
  else if off = 0x068 then .res3
  else if off = 0x070 then .optKind
  else if off = 0x078 then .optSeen
  else if off = 0x080 then .fwValue
  else if off = 0x088 then .fwCfg
  else if 0x100 ≤ off ∧ off < 0x200 then .optDesc ((off - 0x100) / 8)
  else if 0x200 ≤ off ∧ off < 0x280 then .fwField ((off - 0x200) / 8)
  else .reserved

/-- R21. -/
def idWord : Word := 0x0000000150424631

/-- R22: BO is 0 for little-endian, 1 for big-endian. -/
def orderBit (o : ByteOrder) : Bool := o == .be

/-- The byte order of a BO bit (R22). -/
def orderOfBit (b : Bool) : ByteOrder := if b then .be else .le

/-- R24. -/
def Policy.code : Policy → BitVec 2
  | .ignore => 0
  | .warn => 1
  | .fix => 2
  | .fail => 3

/-- R24: all four values are legal. -/
def Policy.ofCode (c : BitVec 2) : Policy :=
  match c.toNat with
  | 0 => .ignore
  | 1 => .warn
  | 2 => .fix
  | _ => .fail

/-- CTRL as it reads (R22 to R26): SRST, bit 63, reads 0. -/
def Ctrl.toWord (c : Ctrl) : Word :=
  bitAt (orderBit c.bo) 0 ||| bitAt c.bov 1 ||| fieldAt c.policy.code 2 ||| bitAt c.dupkeep 4
    ||| bitAt c.ieDone 8 ||| bitAt c.ieErr 9 ||| bitAt c.ieWarn 10

/-- The fields a host write of CTRL sets when SRST = 0 (R22 to R26). -/
def Ctrl.ofWord (v : Word) : Ctrl :=
  { bo := orderOfBit (v.getLsbD 0)
    bov := v.getLsbD 1
    policy := Policy.ofCode (v.extractLsb' 2 2)
    dupkeep := v.getLsbD 4
    ieDone := v.getLsbD 8
    ieErr := v.getLsbD 9
    ieWarn := v.getLsbD 10 }

/-- CTRL.SRST, bit 63 of the word written (R26, R231). -/
def srst (v : Word) : Bool := v.getLsbD 63

/-- R201. -/
def ErrorCode.code : ErrorCode → BitVec 8
  | .ok => 0x00
  | .frameLengthMismatch => 0x01
  | .lengthMismatch => 0x02
  | .badMagic => 0x03
  | .policyFail => 0x04
  | .usageError => 0x05
  | .illegalCmd => 0x10
  | .noSection => 0x11
  | .truncated => 0x12
  | .frameLengthInvalid => 0x13
  | .bounds => 0x14

/-- R210. -/
def ProblemCode.code : ProblemCode → BitVec 8
  | .none => 0x00
  | .dupOption => 0x01

/-- STATUS as it reads (R27). -/
def Status.toWord (t : Status) : Word :=
  bitAt t.busy 0 ||| bitAt t.done 1 ||| bitAt t.err 2 ||| bitAt t.warn 3 ||| bitAt t.problem 4 ||| bitAt t.ovr 5
    ||| fieldAt t.errcode.code 8 ||| fieldAt t.probcode.code 16

/-- A host write of STATUS (R27): each of DONE, ERR, WARN, PROBLEM and OVR is cleared by a 1 and kept by a 0; the rest is read-only. -/
def Status.writeOneToClear (t : Status) (v : Word) : Status :=
  { t with
    done := t.done && !v.getLsbD 1
    err := t.err && !v.getLsbD 2
    warn := t.warn && !v.getLsbD 3
    problem := t.problem && !v.getLsbD 4
    ovr := t.ovr && !v.getLsbD 5 }

/-- INFO as it reads (R30). -/
def Info.toWord (i : Info) : Word :=
  bitAt i.eos 0 ||| bitAt i.shb 1 ||| bitAt (orderBit i.detbo) 2 ||| bitAt i.endMark 8 ||| bitAt i.implicitEnd 9
    ||| bitAt i.known 10 ||| bitAt i.dup 11 ||| bitAt i.discard 12 ||| bitAt i.supersedes 13
    ||| fieldAt i.didx 16 ||| fieldAt i.type 24 ||| bitAt i.invalid 32

/-- OPT_DESC[i] as it reads (R35). -/
def OptDesc.toWord (d : OptDesc) : Word :=
  fieldAt d.code 0 ||| fieldAt d.kind 16 ||| fieldAt d.type 24 ||| bitAt d.mult 29 ||| bitAt d.valid 31

/-- The entry a host write of OPT_DESC[i] stores (R35). -/
def OptDesc.ofWord (v : Word) : OptDesc :=
  { code := v.extractLsb' 0 16
    kind := v.extractLsb' 16 8
    type := v.extractLsb' 24 5
    mult := v.getLsbD 29
    valid := v.getLsbD 31 }

/-- FW_CFG as it reads (R37). -/
def FwCfg.toWord (c : FwCfg) : Word := fieldAt c.w 0 ||| fieldAt c.nf 8 ||| bitAt c.valid 16

/-- FW_CFG after a host write (R37): W and NF as written, VALID = 0. -/
def FwCfg.ofWord (v : Word) : FwCfg := { w := v.extractLsb' 0 7, nf := v.extractLsb' 8 5, valid := false }

/-- R38. -/
def FieldKind.code : FieldKind → BitVec 2
  | .bool => 0
  | .uint => 1
  | .enum => 2
  | .reserved => 3

/-- R38. -/
def FieldKind.ofCode (c : BitVec 2) : FieldKind :=
  match c.toNat with
  | 0 => .bool
  | 1 => .uint
  | 2 => .enum
  | _ => .reserved

/-- FW_FIELD[j] as it reads (R38). -/
def FwField.toWord (f : FwField) : Word :=
  fieldAt f.kind.code 0 ||| fieldAt f.width 8 ||| fieldAt f.nsym 32 ||| fieldAt f.offset 56

/-- FW_FIELD[j] after a host write (R38): OFFSET is read-only and keeps its value. -/
def FwField.written (f : FwField) (v : Word) : FwField :=
  { kind := FieldKind.ofCode (v.extractLsb' 0 2)
    width := v.extractLsb' 8 7
    nsym := v.extractLsb' 32 16
    offset := f.offset }

/-- OPT_DESC[i] (R35). The register file has 32 entries; `regAt` gives no other index. -/
def State.desc (s : State) (i : Nat) : OptDesc := (s.optDesc[i]?).getD OptDesc.zero

/-- The value of a register (R21 to R38); a reserved offset reads 0 (R40). -/
def State.readReg (s : State) (r : Reg) : Word :=
  match r with
  | .id => idWord
  | .ctrl => s.ctrl.toWord
  | .status => s.status.toWord
  | .problemCnt => s.problemCnt
  | .cmd => s.cmd.setWidth 64
  | .info => s.info.toWord
  | .arg0 => s.arg0
  | .arg1 => s.arg1
  | .arg2 => s.arg2
  | .arg3 => s.arg3
  | .res0 => s.res0
  | .res1 => s.res1
  | .res2 => s.res2
  | .res3 => s.res3
  | .optKind => s.optKind.setWidth 64
  | .optSeen => s.optSeen.setWidth 64
  | .fwValue => s.fwValue
  | .fwCfg => s.fwCfg.toWord
  | .optDesc i => (s.desc i).toWord
  | .fwField j => (s.field j).toWord
  | .reserved => 0

/-- The bits of a register that a host read leaves unspecified while BUSY = 1 (R72, R235, I2): all of RES0..RES3 and FW_VALUE, and
the bits that fields occupy in INFO, OPT_SEEN, FW_CFG.VALID and FW_FIELD[j].OFFSET. -/
def Reg.volatileBits : Reg → Word
  | .res0 => BitVec.allOnes 64
  | .res1 => BitVec.allOnes 64
  | .res2 => BitVec.allOnes 64
  | .res3 => BitVec.allOnes 64
  | .fwValue => BitVec.allOnes 64
  | .info => 0x000000011F1F3F07
  | .optSeen => 0x00000000FFFFFFFF
  | .fwCfg => 0x0000000000010000
  | .fwField _ => 0x3F00000000000000
  | .id => 0
  | .ctrl => 0
  | .status => 0
  | .problemCnt => 0
  | .cmd => 0
  | .arg0 => 0
  | .arg1 => 0
  | .arg2 => 0
  | .arg3 => 0
  | .optKind => 0
  | .optDesc _ => 0
  | .reserved => 0

end Sys2Proof.Machine
end

