-- ==== Sys2Proof/Machine/HostPort.lean ====
section
/-! DEFINITION. The host's accesses through the aperture (spec/20_memory.md R60 to R69, spec/70_reset_and_hazards.md R231, R235, R236,
spec/60_exceptions.md R218). -/

namespace Sys2Proof.Machine

/-- What a host access reaches. -/
inductive Target where
  /-- A register or a reserved register offset. -/
  | register (r : Reg)
  /-- The BUF window, at BUF address `a`, or the reserved space past it. -/
  | window (a : Nat)
  /-- The register space, in a width or alignment that R67 refuses. -/
  | unsupported
  /-- A bus address below APERTURE_BASE. -/
  | outside
deriving DecidableEq, Repr

/-- The aperture map (R61, R64, R67). -/
def target (cfg : Config) (addr : Nat) (width : AccessWidth) : Target :=
  if addr < cfg.apertureBase then .outside
  else if addr - cfg.apertureBase < 0x10000 then
    if (addr - cfg.apertureBase) % 8 = 0 ∧ width = .b8 then .register (regAt (addr - cfg.apertureBase)) else .unsupported
  else .window (addr - cfg.apertureBase - 0x10000)

/-- A host write to a register while BUSY = 0 (R22 to R40). -/
def State.writeReg (s : State) (r : Reg) (v : Word) : State :=
  match r with
  | .id => s
  | .ctrl => if srst v then s.softReset else { s with ctrl := Ctrl.ofWord v }
  | .status => { s with status := s.status.writeOneToClear v }
  | .problemCnt => { s with problemCnt := 0 }
  | .cmd => { s with cmd := v.setWidth 32, status := { s.status with busy := true } }
  | .info => s
  | .arg0 => { s with arg0 := v }
  | .arg1 => { s with arg1 := v }
  | .arg2 => { s with arg2 := v }
  | .arg3 => { s with arg3 := v }
  | .res0 => s
  | .res1 => s
  | .res2 => s
  | .res3 => s
  | .optKind => { s with optKind := v.setWidth 8 }
  | .optSeen => { s with optSeen := v.setWidth 32 }
  | .fwValue => { s with fwValue := v }
  | .fwCfg => { s with fwCfg := FwCfg.ofWord v }
  | .optDesc i => { s with optDesc := s.optDesc.setIfInBounds i (OptDesc.ofWord v) }
  | .fwField j =>
    { s with
      fwField := s.fwField.setIfInBounds j ((s.field j).written v)
      fwCfg := { s.fwCfg with valid := false } }
  | .reserved => s

/-- A dropped host write: it changes nothing and sets OVR (R236). -/
def State.dropWrite (s : State) : State := { s with status := { s.status with ovr := true } }

/-- A host write to a register while BUSY = 1 (R236): dropped, but for a STATUS write and a CTRL write with SRST = 1 (R231). -/
def State.writeRegBusy (s : State) (r : Reg) (v : Word) : State :=
  if r = .status then { s with status := s.status.writeOneToClear v }
  else if r = .ctrl ∧ srst v = true then s.softReset
  else s.dropWrite

/-- The bytes of a host datum, its least significant byte first (R64). -/
def hostBytes (width : AccessWidth) (v : Word) : List Byte := toBytesLE width.bytes v.toNat

/-- A host write to the BUF window while BUSY = 0: bytes past BUF are ignored (R64, R40). -/
def State.writeWindow (s : State) (a : Nat) (width : AccessWidth) (v : Word) : State :=
  s.store a ((hostBytes width v).take (s.cfg.bufBytes - a))

/-- One host write (R64, R67, R236). -/
def hostWrite (addr : Nat) (width : AccessWidth) (v : Word) (s : State) : Host.Outcome State Fault Refusal :=
  match target s.cfg addr width with
  | .outside => .fault .outsideAperture
  | .unsupported => .refused .registerAccess
  | .register r => .next (if s.status.busy then s.writeRegBusy r v else s.writeReg r v)
  | .window a => .next (if s.status.busy then s.dropWrite else s.writeWindow a width v)

/-- What a register read returns (R69): its value, with the unspecified bits drawn while BUSY = 1 (R72). -/
def State.regDatum (s : State) (r : Reg) : Word :=
  if s.status.busy then
    (s.readReg r &&& ~~~r.volatileBits) ||| (Config.freeRead s.readDraw &&& r.volatileBits)
  else s.readReg r

/-- Byte i of a window read at BUF address a (R64): a byte of BUF, drawn while BUSY = 1 (R72), or 0 past BUF (R40). -/
def State.windowByte (s : State) (a i : Nat) : Byte :=
  if a + i < s.cfg.bufBytes then
    if s.status.busy then (Config.freeRead s.readDraw).extractLsb' (8 * i) 8 else s.byteAt (a + i)
  else 0

/-- What a window read returns (R64): the bytes in little-endian order, zero-extended. -/
def State.windowDatum (s : State) (a : Nat) (width : AccessWidth) : Word :=
  BitVec.ofNat 64 (fromBytesLE ((List.range width.bytes).map (fun i => s.windowByte a i)))

/-- The host has read a datum: no side effect on the BBF (R69). A read while BUSY = 1 uses up one draw. -/
def State.deliver (s : State) (v : Word) : State :=
  { s with busRead := v, readDraw := if s.status.busy then s.readDraw + 1 else s.readDraw }

/-- One host read (R64, R67, R72). -/
def hostRead (addr : Nat) (width : AccessWidth) (s : State) : Host.Outcome State Fault Refusal :=
  match target s.cfg addr width with
  | .outside => .fault .outsideAperture
  | .unsupported => .refused .registerAccess
  | .register r => .next (s.deliver (s.regDatum r))
  | .window a => .next (s.deliver (s.windowDatum a width))

end Sys2Proof.Machine
end

