-- ==== Sys2Proof/Machine/Engine.lean ====
section
/-! DEFINITION. The engine's turn and the turns of the two agents (spec/60_exceptions.md R218, spec/20_memory.md R71, R72). -/

namespace Sys2Proof.Machine

/-- The engine performs the latched command, if there is one (R218): the word in CMD is matched against the opcode map (R100), and
a word that is no command completes with ILLEGAL_CMD (R87). With none latched the engine is idle and nothing changes. -/
def engineTurn (s : State) : Host.Outcome State Fault Refusal :=
  if s.status.busy then
    match decode s.cmd with
    | .ok i => exec i s
    | .error _ => execIllegal s
  else .next s

/-- One turn (R72: host accesses and commands are performed one after another). -/
def takeTurn (t : Turn) (s : State) : Host.Outcome State Fault Refusal :=
  match t with
  | .write addr width v => hostWrite addr width v s
  | .read addr width => hostRead addr width s
  | .hardReset => .next s.hardReset
  | .engine => engineTurn s

/-- A command word laid in CMD as a host write while idle lays it (R29, R218): latched, BUSY = 1. -/
def State.latch (s : State) (w : BitVec 32) : State := { s with cmd := w, status := { s.status with busy := true } }

end Sys2Proof.Machine
end

