-- ==== Sys2Proof/Machine/Step.lean ====
section
/-! DEFINITION. One step of the machine, and the placing of one command word for the next step. -/

namespace Sys2Proof.Machine

/-- One step: the next turn of `turns`, or the engine's when no turn waits (R218; assumption 4). -/
def step (s : State) : Host.Outcome State Fault Refusal :=
  match s.turns with
  | [] => engineTurn s
  | t :: ts => takeTurn t { s with turns := ts }

/-- `s` with the word latched and the engine to move next, so that the next step performs it (assumption 6). A command is one
32-bit word (R80). -/
def State.withFetchWord (s : State) (nbits w : Nat) : State :=
  { s.latch (BitVec.ofNat 32 (w % 2 ^ nbits)) with turns := .engine :: s.turns }

end Sys2Proof.Machine
end

