-- ==== Sys2Proof/Safety.lean ====
section
/-! DEFINITION. The terms claims are made in: the status after a completion, the invariants of the machine, what a host read of a
register delivers, duplicates of the option codec, and the host's way of walking an option list. Nothing of the machine uses this file. -/

namespace Sys2Proof.Machine

/-! ### Completions (R212, R214) -/

/-- STATUS after a command that succeeded (R212): ERR keeps its value. -/
def Status.succeeded (t : Status) : Status := { t with busy := false, done := true, errcode := .ok }

/-- STATUS after a command that failed with code e (R212). -/
def Status.failed (t : Status) (e : ErrorCode) : Status := { t with busy := false, done := true, err := true, errcode := e }

/-- The whole effect of a command that failed with code e and had reported no problem (R211, R214). -/
def State.failedWith (s : State) (e : ErrorCode) : State := { s with info := Info.zero, status := s.status.failed e }

/-- PROBLEM_CNT after one more problem (R206): `min(PROBLEM_CNT + 1, 2^64 - 1)`. -/
def countedUp (n : Word) : Word := BitVec.ofNat 64 (min (n.toNat + 1) (2 ^ 64 - 1))

/-! ### Invariants -/

/-- BUF's written bytes are in canonical form and lie inside BUF (R39). -/
def State.BufInv (s : State) : Prop := s.buf.wf ∧ ∀ p ∈ s.buf, p.1 < s.cfg.bufBytes

/-- While FW_CFG.VALID = 1 the schema is one that FLAG_CONFIG accepts, and every OFFSET is the sum of the widths before it (R37,
R120, R121). -/
def State.SchemaInv (s : State) : Prop :=
  s.fwCfg.valid = true →
    1 ≤ s.fwCfg.w.toNat ∧ s.fwCfg.w.toNat ≤ 64 ∧ s.nf ≤ 16 ∧ (∀ f ∈ s.schema, f.legal = true) ∧
      s.offsetOf s.nf ≤ s.fwCfg.w.toNat ∧ ∀ j, j < s.nf → (s.field j).offset.toNat = s.offsetOf j

/-- INFO is 0 while the latest outcome is an error (R30: "A command that raises an error leaves INFO = 0"). -/
def State.InfoInv (s : State) : Prop := s.status.errcode ≠ .ok → s.info = Info.zero

/-- The invariant of the machine. -/
structure State.Inv (s : State) : Prop where
  config : s.cfg.Legal
  buf    : s.BufInv
  schema : s.SchemaInv
  info   : s.InfoInv

/-! ### Host reads of registers -/

/-- An 8-byte host read at an aperture offset answers a next state, and the datum the host has received there is v. -/
def State.HostReads (s : State) (off : Nat) (v : Word) : Prop :=
  ∃ t, hostRead (s.cfg.apertureBase + off) .b8 s = .next t ∧ t.busRead = v

/-- The single registers of spec/10_state.md section 2 at their offsets. OPT_DESC[i] is at 0x100 + 8*i and FW_FIELD[j] at
0x200 + 8*j. -/
def registerMap : List (Nat × Reg) :=
  [(0x000, .id), (0x008, .ctrl), (0x010, .status), (0x018, .problemCnt), (0x020, .cmd), (0x028, .info),
    (0x030, .arg0), (0x038, .arg1), (0x040, .arg2), (0x048, .arg3),
    (0x050, .res0), (0x058, .res1), (0x060, .res2), (0x068, .res3),
    (0x070, .optKind), (0x078, .optSeen), (0x080, .fwValue), (0x088, .fwCfg)]

/-! ### The option codec's terms -/

/-- A record of this code would be a second occurrence of a recognised non-multiple option (R142). -/
def State.Duplicate (s : State) (code : Nat) : Prop :=
  ∃ i d, s.lookup code = some (i, d) ∧ d.mult = false ∧ s.optSeen.getLsbD i = true

/-- INFO's KNOWN, DIDX and TYPE for a record's code (R141), every other bit 0. -/
def State.recordInfo (s : State) (code : Nat) : Info :=
  match s.lookup code with
  | none => Info.zero
  | some (i, d) => { Info.zero with known := true, didx := BitVec.ofNat 5 i, type := d.type }

/-- OPT_SEEN after an accepted first record of this code (R142): the bit of the matching entry set, if one matches. -/
def State.seenWith (s : State) (code : Nat) : BitVec 32 :=
  match s.lookup code with
  | none => s.optSeen
  | some (i, _) => s.optSeen ||| BitVec.twoPow 32 i

/-- The host writes the four argument registers (R90, `do M a0, a1, a2, a3`). -/
def State.withArgs (s : State) (a0 a1 a2 a3 : Nat) : State :=
  { s with
    arg0 := BitVec.ofNat 64 a0, arg1 := BitVec.ofNat 64 a1, arg2 := BitVec.ofNat 64 a2, arg3 := BitVec.ofNat 64 a3 }

/-- The state after a command, if it succeeded. -/
def succeeding (i : Instr) (s : State) : Option State :=
  match exec i s with
  | .next t => if t.status.errcode = .ok then some t else none
  | .fault _ => none
  | .refused _ => none

/-- One record as a host sees it: code, length, address of the value bytes (RES0, RES1, RES2). -/
abbrev Record := Nat × Nat × Nat

/-- The record in the result registers. -/
def State.record (s : State) : Record := (s.res0.toNat, s.res1.toNat, s.res2.toNat)

/-- R147: OPT_ENC for each (code, length) at successive RES3 cursors, from cursor c, all below lim. The records, the final cursor and
the final state, if every command succeeded. -/
def encodeRecords (lim : Nat) : List (Nat × Nat) → Nat → State → Option (List Record × Nat × State)
  | [], c, s => some ([], c, s)
  | (code, len) :: rest, c, s =>
    match succeeding .optEnc (s.withArgs c lim code len) with
    | none => none
    | some t =>
      match encodeRecords lim rest t.res3.toNat t with
      | none => none
      | some (rs, c', u) => some (t.record :: rs, c', u)

/-- R144 corner case 7: OPT_DEC repeated at RES3 until INFO.END, at most `fuel` times. The records before the end, and the state at
the end, if every command succeeded and the end was reached. -/
def decodeRecords (lim : Nat) : Nat → Nat → State → Option (List Record × State)
  | 0, _, _ => none
  | fuel + 1, c, s =>
    match succeeding .optDec (s.withArgs c lim 0 0) with
    | none => none
    | some t =>
      if t.info.endMark then some ([], t)
      else
        match decodeRecords lim fuel t.res3.toNat t with
        | none => none
        | some (rs, u) => some (t.record :: rs, u)

/-- The bytes that records of these lengths take (R140): `4 + ceil4(len)` each. -/
def recordsBytes (records : List (Nat × Nat)) : Nat := (records.map (fun r => 4 + ceil4 r.2)).sum

end Sys2Proof.Machine
end

