-- ==== Sys2Proof/Certificates/Slice0/Obligations.lean ====
section
/-! DEFINITION. The statements about the BBF for the provers. Each docstring names the rule of spec/ it formalises. In every
equation of states, a field that the record update does not name is unchanged: those equations are frames. -/

open Sys2Proof
open Sys2Proof.Machine

/-! ## Encoding -/

/-- R86: "Exactly one row or none matches each word." -/
def Obligations.EveryWordSelectsAtMostOneRow : Prop :=
  ∀ (w : BitVec 32) (r r' : Row), r ∈ opcodeTable → r' ∈ opcodeTable →
    w &&& r.mask = r.pattern → w &&& r'.mask = r'.pattern → r = r'

/-- R87: a word is illegal when its OP is not in the map, or its OP is in the map and a reserved bit (set in the mask, clear in the
match) is not 0; an illegal word is latched like any other, completes with ILLEGAL_CMD, and has no other effect. -/
def Obligations.IllegalWordsCompleteWithIllegalCmd : Prop :=
  ∀ w : BitVec 32,
    ((∃ e, decode w = .error e) ↔
      (∀ r ∈ opcodeTable, opField r.pattern ≠ opField w) ∨
      (∃ r ∈ opcodeTable, opField r.pattern = opField w ∧ w &&& (r.mask &&& ~~~r.pattern) ≠ 0)) ∧
    ((∃ e, decode w = .error e) → ∀ s : State,
      (∀ v : Word, v.setWidth 32 = w → s.status.busy = false →
        hostWrite (s.cfg.apertureBase + 0x020) .b8 v s =
          .next { s with cmd := w, status := { s.status with busy := true } }) ∧
      (s.status.busy = true → s.cmd = w → engineTurn s = .next (s.failedWith .illegalCmd)))

/-- Decoding the word of a well-formed command gives the command back, with every operand (R80 to R88). -/
def Obligations.DecodeOfEncodeGivesTheCommand : Prop :=
  ∀ i : Instr, i.WellFormed → decode (encode i) = .ok i

/-- Every word the decoder accepts is the word of exactly the well-formed command it gives: no bit of a legal word is ignored. -/
def Obligations.EncodeOfDecodeGivesTheWord : Prop :=
  ∀ (w : BitVec 32) (i : Instr), decode w = .ok i → i.WellFormed ∧ encode i = w

/-- Words written out from R81, R86 and R88's examples decode to their commands, one or more of every family. -/
def Obligations.WrittenOutWordsDecode : Prop :=
  decode 0x00000000#32 = .ok .nop ∧
  decode 0x00001101#32 = .ok (.intDec .w16 true) ∧
  decode 0x00000202#32 = .ok (.intEnc .w32 false) ∧
  decode 0x00000010#32 = .ok .flagConfig ∧
  decode 0x000F0011#32 = .ok (.flagGet 15) ∧
  decode 0x00010012#32 = .ok (.flagSet 1) ∧
  decode 0x00000020#32 = .ok .optBegin ∧
  decode 0x00000021#32 = .ok .optDec ∧
  decode 0x00000022#32 = .ok .optEnc ∧
  decode 0x00000023#32 = .ok .optEnd ∧
  decode 0x00000030#32 = .ok .frameEnc ∧
  decode 0x00000031#32 = .ok .frameDec

/-! ## Steps -/

/-- R218: the engine performs the latched command, whether its turn is the next of `turns` or no turn waits; with no command latched
its turn changes nothing. A step takes the next turn off `turns` and does nothing else around the command. (That the engine moves
when no turn waits is the model's choice, assumption 4.) -/
def Obligations.StepPerformsTheLatchedCommand : Prop :=
  ∀ (s : State) (ts : List Turn),
    (∀ i, s.status.busy = true → decode s.cmd = .ok i →
      (s.turns = [] → step s = exec i s) ∧
      (s.turns = .engine :: ts → step s = exec i { s with turns := ts })) ∧
    (s.status.busy = false →
      (s.turns = [] → step s = .next s) ∧
      (s.turns = .engine :: ts → step s = .next { s with turns := ts }))

/-- R71, R72 and R230: a step performs the first of the waiting turns, and only that: a host write, a host read, or a hard reset.
(That the turns stand in a list of the state is the model's choice, assumptions 4 and 7.) -/
def Obligations.TurnsArePerformedInOrder : Prop :=
  ∀ (s : State) (ts : List Turn),
    (∀ addr width v, s.turns = .write addr width v :: ts → step s = hostWrite addr width v { s with turns := ts }) ∧
    (∀ addr width, s.turns = .read addr width :: ts → step s = hostRead addr width { s with turns := ts }) ∧
    (s.turns = .hardReset :: ts → step s = .next { s with turns := ts }.hardReset)

/-- R29: a CMD write while BUSY = 0 latches bits 31:0 and starts the command; bits 63:32 are ignored; a read, even while BUSY = 1,
returns the latched word zero-extended; the reset value is 0. -/
def Obligations.CmdWriteLatchesTheWord : Prop :=
  State.reset.cmd = 0 ∧
  ∀ (s : State) (v : Word), s.status.busy = false →
    ∃ t, hostWrite (s.cfg.apertureBase + 0x020) .b8 v s = .next t ∧
      t = { s with cmd := v.extractLsb' 0 32, status := { s.status with busy := true } } ∧
      ∃ u, hostRead (t.cfg.apertureBase + 0x020) .b8 t = .next u ∧ u.busRead.toNat = v.toNat % 2 ^ 32

/-- Every command, and every illegal word, completes in one engine step (R212): ERRCODE is written, DONE set, ERR set exactly when
the code is not OK (or it was set), BUSY cleared. No engine turn faults or is refused. -/
def Obligations.EveryLatchedWordCompletes : Prop :=
  ∀ s : State, s.status.busy = true →
    ∃ t, engineTurn s = .next t ∧ t.status.busy = false ∧ t.status.done = true ∧
      (t.status.err = true ↔ s.status.err = true ∨ t.status.errcode ≠ .ok)

/-- R214: an error records ERRCODE, ERR and DONE, plus the bookkeeping of a problem that was reported; nothing else changes but
BUSY and INFO (which is 0), and CMD holds the failing word. -/
def Obligations.FailedCommandsLeaveNoOtherTrace : Prop :=
  ∀ s t : State, s.status.busy = true → engineTurn s = .next t → t.status.errcode ≠ .ok →
    (t.status.errcode ≠ .policyFail ∧ t = s.failedWith t.status.errcode) ∨
    (t.status.errcode = .policyFail ∧
      t = { s.failedWith .policyFail with
        problemCnt := countedUp s.problemCnt
        status := { s.status.failed .policyFail with problem := true, probcode := .dupOption } })

/-- R42, first half and second half: which command may write which register, and the registers no command writes. -/
def Obligations.CommandsWriteOnlyTheirRegisters : Prop :=
  ∀ (i : Instr) (s t : State), exec i s = .next t →
    t.arg0 = s.arg0 ∧ t.arg1 = s.arg1 ∧ t.arg2 = s.arg2 ∧ t.arg3 = s.arg3 ∧
    t.ctrl.policy = s.ctrl.policy ∧ t.ctrl.dupkeep = s.ctrl.dupkeep ∧
    t.ctrl.ieDone = s.ctrl.ieDone ∧ t.ctrl.ieErr = s.ctrl.ieErr ∧ t.ctrl.ieWarn = s.ctrl.ieWarn ∧
    t.optKind = s.optKind ∧ t.optDesc = s.optDesc ∧ t.cmd = s.cmd ∧
    t.fwCfg.w = s.fwCfg.w ∧ t.fwCfg.nf = s.fwCfg.nf ∧
    (∀ j, (t.field j).kind = (s.field j).kind ∧ (t.field j).width = (s.field j).width ∧ (t.field j).nsym = (s.field j).nsym) ∧
    (i ≠ .frameDec → t.ctrl = s.ctrl) ∧
    (i ≠ .optBegin → i ≠ .optDec → i ≠ .optEnc → t.optSeen = s.optSeen) ∧
    ((∀ j, i ≠ .flagSet j) → t.fwValue = s.fwValue) ∧
    (i ≠ .flagConfig → t.fwField = s.fwField ∧ t.fwCfg.valid = s.fwCfg.valid)

/-- R44: "No command clears DONE, ERR, WARN, PROBLEM or OVR"; no command reads them either: with other values of these five bits
the command does the same, and leaves each of them set exactly when it held 1 or the command sets it. Every completion sets DONE and
an error sets ERR (R212); a reported problem, which shows as INFO.DUP or as POLICY_FAIL (R142), sets PROBLEM, and WARN too under
POLICY = WARN (R206, R209); no command sets OVR. -/
def Obligations.NoCommandClearsOrReadsStickyFlags : Prop :=
  ∀ (s t : State) (d e w p o : Bool), s.status.busy = true → engineTurn s = .next t →
    (s.status.done = true → t.status.done = true) ∧ (s.status.err = true → t.status.err = true) ∧
    (s.status.warn = true → t.status.warn = true) ∧ (s.status.problem = true → t.status.problem = true) ∧
    t.status.ovr = s.status.ovr ∧
    t.status.done = true ∧
    engineTurn { s with status := { s.status with done := d, err := e, warn := w, problem := p, ovr := o } } =
      .next { t with status := { t.status with
        err := e || t.status.errcode != .ok
        warn := w || ((t.info.dup || t.status.errcode == .policyFail) && s.ctrl.policy == .warn)
        problem := p || (t.info.dup || t.status.errcode == .policyFail)
        ovr := o } }

/-- R202 and R203: every error but POLICY_FAIL is raised under every POLICY value, and by the same commands. -/
def Obligations.PolicyNeverGatesOtherErrors : Prop :=
  ∀ (s t t' : State) (p : Policy), s.status.busy = true →
    engineTurn s = .next t → engineTurn { s with ctrl := { s.ctrl with policy := p } } = .next t' →
    ∀ e : ErrorCode, e ≠ .ok → e ≠ .policyFail → t.status.errcode = e → t'.status.errcode = e

/-- A command reads no byte of BUF outside cursor .. limit - 1 (R18: the limit is "the first BUF address the command may not
touch"): two states that differ only in such bytes are taken to states that agree in every register and in every byte between. -/
def Obligations.CommandsReadOnlyBetweenCursorAndLimit : Prop :=
  ∀ (i : Instr) (s t : State) (m : Memory) (draw : Nat),
    (∀ a, s.cursor ≤ a → a < s.limit → ({ s with buf := m, bufDraw := draw } : State).byteAt a = s.byteAt a) →
    exec i s = .next t →
    ∃ t', exec i { s with buf := m, bufDraw := draw } = .next t' ∧
      t' = { t with buf := t'.buf, bufDraw := draw } ∧
      ∀ a, s.cursor ≤ a → a < s.limit → t'.byteAt a = t.byteAt a

/-- A command writes no byte of BUF outside cursor .. limit - 1 (R18), and only INT_ENC, OPT_ENC, OPT_END and FRAME_ENC write
BUF at all. -/
def Obligations.CommandsWriteOnlyBetweenCursorAndLimit : Prop :=
  ∀ (i : Instr) (s t : State), exec i s = .next t →
    (∀ a, a < s.cursor ∨ s.limit ≤ a → t.byteAt a = s.byteAt a) ∧
    ((∀ width signed, i ≠ .intEnc width signed) → i ≠ .optEnc → i ≠ .optEnd → i ≠ .frameEnc → ∀ a, t.byteAt a = s.byteAt a)

/-! ## Integer codec and NOP -/

/-- R17, FromBytes: LE gives the sum of bs[i]*256^i and BE the sum of bs[i]*256^(n-1-i). -/
def Obligations.BytesSpellTheirPositionalSum : Prop :=
  ∀ bs : List Byte,
    fromBytes .le bs = ∑ i ∈ Finset.range bs.length, ((bs[i]?).getD 0).toNat * 256 ^ i ∧
    fromBytes .be bs = ∑ i ∈ Finset.range bs.length, ((bs[i]?).getD 0).toNat * 256 ^ (bs.length - 1 - i)

/-- R101: NOP does nothing and completes with success; INFO = 0. Its word is 0, and no other word of its opcode is legal. -/
def Obligations.NopOnlyCompletes : Prop :=
  decode 0x00000000#32 = .ok .nop ∧
  (∀ w : BitVec 32, opField w = 0 → w ≠ 0 → decode w = .error .reservedBits) ∧
  ∀ s : State, exec .nop s = .next { s with info := Info.zero, status := s.status.succeeded }

/-- R102: INT_DEC. The value is the bytes' reading in the section byte order, sign-extended from w bits when S = 1; every byte of
BUF and every other register is unchanged; NO_SECTION comes before BOUNDS. Its word has OP 0x01, WC with n = 2^WC, and S in bit 12. -/
def Obligations.IntDecDecodesOneInteger : Prop :=
  ∀ (s : State) (width : IntWidth) (signed : Bool),
    (∀ wc, width.bytes = 2 ^ wc →
      decode (BitVec.ofNat 32 (0x01 + 2 ^ 8 * wc + 2 ^ 12 * signed.toNat)) = .ok (.intDec width signed)) ∧
    (s.ctrl.bov = false → exec (.intDec width signed) s = .next (s.failedWith .noSection)) ∧
    (s.ctrl.bov = true → s.limit > s.cfg.bufBytes ∨ s.cursor > s.limit ∨ s.cursor + width.bytes > s.limit →
      exec (.intDec width signed) s = .next (s.failedWith .bounds)) ∧
    (s.ctrl.bov = true → s.limit ≤ s.cfg.bufBytes → s.cursor + width.bytes ≤ s.limit →
      ∃ u, u = fromBytes s.ctrl.bo (s.load s.cursor width.bytes) ∧ u < 2 ^ (8 * width.bytes) ∧
        exec (.intDec width signed) s = .next { s with
          res0 := BitVec.ofNat 64
            (if signed = true ∧ 2 ^ (8 * width.bytes - 1) ≤ u then u + (2 ^ 64 - 2 ^ (8 * width.bytes)) else u)
          res3 := BitVec.ofNat 64 (s.cursor + width.bytes)
          info := Info.zero
          status := s.status.succeeded })

/-- R103: INT_ENC. The low w bits of ARG2 go to the n bytes at the cursor in the section byte order, whatever S says (R83); RES0 is
ARG2 mod 2^w; every other byte and every other register is unchanged. Its word has OP 0x02, WC with n = 2^WC, and S in bit 12. -/
def Obligations.IntEncEncodesOneInteger : Prop :=
  ∀ (s : State) (width : IntWidth) (signed : Bool),
    (∀ wc, width.bytes = 2 ^ wc →
      decode (BitVec.ofNat 32 (0x02 + 2 ^ 8 * wc + 2 ^ 12 * signed.toNat)) = .ok (.intEnc width signed)) ∧
    (s.ctrl.bov = false → exec (.intEnc width signed) s = .next (s.failedWith .noSection)) ∧
    (s.ctrl.bov = true → s.limit > s.cfg.bufBytes ∨ s.cursor > s.limit ∨ s.cursor + width.bytes > s.limit →
      exec (.intEnc width signed) s = .next (s.failedWith .bounds)) ∧
    (s.ctrl.bov = true → s.limit ≤ s.cfg.bufBytes → s.cursor + width.bytes ≤ s.limit →
      ∃ t, exec (.intEnc width signed) s = .next t ∧
        t = { s with
          buf := t.buf
          res0 := BitVec.ofNat 64 (s.arg2.toNat % 2 ^ (8 * width.bytes))
          res3 := BitVec.ofNat 64 (s.cursor + width.bytes)
          info := Info.zero
          status := s.status.succeeded } ∧
        (∀ k, k < width.bytes →
          t.byteAt (s.cursor + k) =
            BitVec.ofNat 8 (s.arg2.toNat / 256 ^ (if s.ctrl.bo = .le then k else width.bytes - 1 - k))) ∧
        ∀ a, a < s.cursor ∨ s.cursor + width.bytes ≤ a → t.byteAt a = s.byteAt a)

/-- R104 (3): INT_ENC then INT_DEC at the same address with the same byte order gives the value mod 2^w back unsigned, and gives
ARG2 itself back signed when ARG2 is a signed value of w bits. -/
def Obligations.IntegersRoundTrip : Prop :=
  ∀ (s : State) (width : IntWidth) (signed : Bool),
    s.ctrl.bov = true → s.limit ≤ s.cfg.bufBytes → s.cursor + width.bytes ≤ s.limit →
    ∃ t, exec (.intEnc width signed) s = .next t ∧
      (∃ u, exec (.intDec width false) t = .next u ∧ u.status.errcode = .ok ∧
        u.res0.toNat = s.arg2.toNat % 2 ^ (8 * width.bytes)) ∧
      (-(2 ^ (8 * width.bytes - 1) : Int) ≤ s.arg2.toInt → s.arg2.toInt < 2 ^ (8 * width.bytes - 1) →
        ∃ u, exec (.intDec width true) t = .next u ∧ u.status.errcode = .ok ∧ u.res0 = s.arg2)

/-! ## Flag word -/

/-- R121's checks on one sub-field: BOOL has width 1, UINT 1 to 64, ENUM 2 to 64 with 1 to 2^n symbols; KIND 3 is rejected. (Used by
the next statements through `FwField.legal`.) -/
def Obligations.SubfieldChecksAreThoseOfFlagConfig : Prop :=
  ∀ f : FwField, f.legal = true ↔
    (f.kind = .bool ∧ f.width.toNat = 1) ∨
    (f.kind = .uint ∧ 1 ≤ f.width.toNat ∧ f.width.toNat ≤ 64) ∨
    (f.kind = .enum ∧ 2 ≤ f.width.toNat ∧ f.width.toNat ≤ 64 ∧ 1 ≤ f.nsym.toNat ∧ f.nsym.toNat ≤ 2 ^ f.width.toNat)

/-- R121: FLAG_CONFIG succeeds exactly on a legal schema, writes OFFSET of the NF sub-fields and VALID, and nothing else; on any other
schema it ends with USAGE_ERROR, and VALID and every OFFSET keep their values. Its word is 0x00000010. -/
def Obligations.FlagConfigValidatesTheSchema : Prop :=
  decode 0x00000010#32 = .ok .flagConfig ∧
  ∀ s : State,
    (1 ≤ s.fwCfg.w.toNat ∧ s.fwCfg.w.toNat ≤ 64 ∧ s.nf ≤ 16 ∧ (∀ j, j < s.nf → (s.field j).legal = true) ∧
        s.offsetOf s.nf ≤ s.fwCfg.w.toNat →
      ∃ t, exec .flagConfig s = .next t ∧
        t = { s with
          fwField := t.fwField
          fwCfg := { s.fwCfg with valid := true }
          info := Info.zero
          status := s.status.succeeded } ∧
        (∀ j, j < s.nf → t.field j = { s.field j with offset := (t.field j).offset } ∧
          (t.field j).offset.toNat = s.offsetOf j) ∧
        ∀ j, s.nf ≤ j → t.field j = s.field j) ∧
    (¬(1 ≤ s.fwCfg.w.toNat ∧ s.fwCfg.w.toNat ≤ 64 ∧ s.nf ≤ 16 ∧ (∀ j, j < s.nf → (s.field j).legal = true) ∧
        s.offsetOf s.nf ≤ s.fwCfg.w.toNat) →
      exec .flagConfig s = .next (s.failedWith .usageError))

/-- R120: after a FLAG_CONFIG that succeeded the sub-fields are packed from bit 0 upward in schema order with no gaps: OFFSET_0 = 0
and OFFSET_(j+1) = OFFSET_j + WIDTH_j; the last ends at or below W, and no two share a bit. -/
def Obligations.SubfieldsArePackedWithoutOverlap : Prop :=
  ∀ s t : State, exec .flagConfig s = .next t → t.status.errcode = .ok →
    (0 < t.nf → (t.field 0).offset = 0) ∧
    (∀ j, j + 1 < t.nf → (t.field (j + 1)).offset.toNat = (t.field j).offset.toNat + (t.field j).width.toNat) ∧
    (∀ j, j < t.nf → (t.field j).offset.toNat + (t.field j).width.toNat ≤ t.fwCfg.w.toNat) ∧
    ∀ j k, j < k → k < t.nf → (t.field j).offset.toNat + (t.field j).width.toNat ≤ (t.field k).offset.toNat

/-- R122: FLAG_GET. Bit k of RES0 is bit OFFSET + k of FW_VALUE for k below WIDTH and 0 above; INVALID marks an ENUM index at or
past NSYM; FW_VALUE and everything else is unchanged. Without a valid schema, or for a sub-field that does not exist,
USAGE_ERROR. Its word is 0x00000011 | (j << 16). -/
def Obligations.FlagGetReadsTheSubfield : Prop :=
  ∀ (s : State) (j : Nat),
    (j < 16 → decode (0x00000011#32 ||| (BitVec.ofNat 32 j <<< 16)) = .ok (.flagGet j)) ∧
    (s.fwCfg.valid = false ∨ s.nf ≤ j → exec (.flagGet j) s = .next (s.failedWith .usageError)) ∧
    (s.fwCfg.valid = true → j < s.nf →
      ∃ r : Word, (∀ k, k < 64 → r.getLsbD k =
          (decide (k < (s.field j).width.toNat) && s.fwValue.getLsbD ((s.field j).offset.toNat + k))) ∧
        exec (.flagGet j) s = .next { s with
          res0 := r
          info := { Info.zero with invalid := decide ((s.field j).kind = .enum ∧ (s.field j).nsym.toNat ≤ r.toNat) }
          status := s.status.succeeded })

/-- R123: FLAG_SET. The sub-field's bits become those of the coerced value (BOOL: 0 or 1; else ARG0 mod 2^n), every other bit of
FW_VALUE is unchanged (R124), RES0 is the new FW_VALUE, INVALID marks an ENUM index at or past NSYM. A value wider than the
sub-field is no error. Without a valid schema, or for a sub-field that does not exist, USAGE_ERROR. Its word is
0x00000012 | (j << 16). -/
def Obligations.FlagSetWritesOnlyTheSubfield : Prop :=
  ∀ (s : State) (j : Nat), s.SchemaInv →
    (j < 16 → decode (0x00000012#32 ||| (BitVec.ofNat 32 j <<< 16)) = .ok (.flagSet j)) ∧
    (s.fwCfg.valid = false ∨ s.nf ≤ j → exec (.flagSet j) s = .next (s.failedWith .usageError)) ∧
    (s.fwCfg.valid = true → j < s.nf →
      ∃ (b : Nat) (v : Word),
        b = (if (s.field j).kind = .bool then (if s.arg0 = 0 then 0 else 1) else s.arg0.toNat % 2 ^ (s.field j).width.toNat) ∧
        (∀ k, k < 64 → v.getLsbD k =
          (if (s.field j).offset.toNat ≤ k ∧ k < (s.field j).offset.toNat + (s.field j).width.toNat
            then b.testBit (k - (s.field j).offset.toNat) else s.fwValue.getLsbD k)) ∧
        exec (.flagSet j) s = .next { s with
          fwValue := v
          res0 := v
          info := { Info.zero with invalid := decide ((s.field j).kind = .enum ∧ (s.field j).nsym.toNat ≤ b) }
          status := s.status.succeeded })

/-- The get-set laws of the flag word (R120, R122 to R124; the source's S7 "setting a 4-bit unsigned sub-field to 17 stores 1"):
a FLAG_GET after a FLAG_SET of the same sub-field gives the coerced value, one of another sub-field gives what it gave before. -/
def Obligations.FlagGetAfterFlagSet : Prop :=
  ∀ (s : State) (j k : Nat), s.SchemaInv → s.fwCfg.valid = true → j < s.nf → k < s.nf →
    ∃ t u u', exec (.flagSet j) s = .next t ∧ exec (.flagGet k) t = .next u ∧ exec (.flagGet k) s = .next u' ∧
      u.status.errcode = .ok ∧ u.fwValue = t.fwValue ∧
      (k ≠ j → u.res0 = u'.res0) ∧
      (k = j → u.res0.toNat =
        if (s.field j).kind = .bool then (if s.arg0 = 0 then 0 else 1) else s.arg0.toNat % 2 ^ (s.field j).width.toNat)

/-! ## Options -/

/-- R143: OPT_BEGIN clears OPT_SEEN, needs no open section, and changes nothing else. Its word is 0x00000020. -/
def Obligations.OptBeginClearsSeen : Prop :=
  decode 0x00000020#32 = .ok .optBegin ∧
  ∀ s : State, exec .optBegin s = .next { s with optSeen := 0, info := Info.zero, status := s.status.succeeded }

/-- R141: Lookup(code) is the least index of a valid entry with KIND = OPT_KIND and CODE = code, or none. -/
def Obligations.LookupIsTheLeastMatch : Prop :=
  ∀ (s : State) (code : Nat),
    (∀ i d, s.lookup code = some (i, d) ↔
      i < 32 ∧ d = s.desc i ∧ (d.valid = true ∧ d.kind = s.optKind ∧ d.code.toNat = code) ∧
        ∀ k, k < i → ¬((s.desc k).valid = true ∧ (s.desc k).kind = s.optKind ∧ (s.desc k).code.toNat = code)) ∧
    (s.lookup code = none ↔
      ∀ k, k < 32 → ¬((s.desc k).valid = true ∧ (s.desc k).kind = s.optKind ∧ (s.desc k).code.toNat = code))

/-- R144, every end of OPT_DEC but an accepted or duplicate record: NO_SECTION, then BOUNDS; the implicit end at the limit; a
partial record; the terminator; a declared length that passes the limit. BUF is unchanged in each. -/
def Obligations.OptDecEndsAndErrors : Prop :=
  ∀ s : State,
    (s.ctrl.bov = false → exec .optDec s = .next (s.failedWith .noSection)) ∧
    (s.ctrl.bov = true → s.limit > s.cfg.bufBytes ∨ s.cursor > s.limit → exec .optDec s = .next (s.failedWith .bounds)) ∧
    (s.ctrl.bov = true → s.limit ≤ s.cfg.bufBytes → s.cursor = s.limit →
      exec .optDec s = .next { s with
        res0 := 0, res1 := 0, res2 := s.arg0, res3 := s.arg0
        info := { Info.zero with endMark := true, implicitEnd := true }
        status := s.status.succeeded }) ∧
    (s.ctrl.bov = true → s.limit ≤ s.cfg.bufBytes → s.cursor < s.limit → s.limit < s.cursor + 4 →
      exec .optDec s = .next (s.failedWith .lengthMismatch)) ∧
    (s.ctrl.bov = true → s.limit ≤ s.cfg.bufBytes → s.cursor + 4 ≤ s.limit →
      ∀ code len, code = fromBytes s.ctrl.bo (s.load s.cursor 2) → len = fromBytes s.ctrl.bo (s.load (s.cursor + 2) 2) →
        (code = 0 ∧ len = 0 →
          exec .optDec s = .next { s with
            res0 := 0, res1 := 0
            res2 := BitVec.ofNat 64 (s.cursor + 4), res3 := BitVec.ofNat 64 (s.cursor + 4)
            info := { Info.zero with endMark := true }
            status := s.status.succeeded }) ∧
        (¬(code = 0 ∧ len = 0) → s.limit < s.cursor + 4 + ceil4 len →
          exec .optDec s = .next (s.failedWith .lengthMismatch)))

/-- R144 and R142 for a record that is no duplicate: unknown, multiple, or the first of its kind. A code 0 with a nonzero length is
such a record. OPT_DEC reports it, marks OPT_SEEN, and changes nothing else. -/
def Obligations.OptDecReportsOneRecord : Prop :=
  ∀ (s : State) (code len : Nat),
    s.ctrl.bov = true → s.limit ≤ s.cfg.bufBytes → s.cursor + 4 ≤ s.limit →
    code = fromBytes s.ctrl.bo (s.load s.cursor 2) → len = fromBytes s.ctrl.bo (s.load (s.cursor + 2) 2) →
    ¬(code = 0 ∧ len = 0) → s.cursor + 4 + ceil4 len ≤ s.limit → ¬s.Duplicate code →
    exec .optDec s = .next { s with
      res0 := BitVec.ofNat 64 code
      res1 := BitVec.ofNat 64 len
      res2 := BitVec.ofNat 64 (s.cursor + 4)
      res3 := BitVec.ofNat 64 (s.cursor + 4 + ceil4 len)
      optSeen := s.seenWith code
      info := s.recordInfo code
      status := s.status.succeeded }

/-- R142 on decode, R206 to R209: a second occurrence of a non-multiple option. Under FAIL the command ends with POLICY_FAIL and
keeps only the report. Under FIX the record is flagged DISCARD (DUPKEEP = 0) or SUPERSEDES (DUPKEEP = 1). Under WARN and IGNORE
both are kept, and WARN sets STATUS.WARN. Under all four the report counts and PROBCODE is DUP_OPTION. -/
def Obligations.OptDecDuplicateFollowsThePolicy : Prop :=
  ∀ (s : State) (code len : Nat),
    s.ctrl.bov = true → s.limit ≤ s.cfg.bufBytes → s.cursor + 4 ≤ s.limit →
    code = fromBytes s.ctrl.bo (s.load s.cursor 2) → len = fromBytes s.ctrl.bo (s.load (s.cursor + 2) 2) →
    ¬(code = 0 ∧ len = 0) → s.cursor + 4 + ceil4 len ≤ s.limit → s.Duplicate code →
    (s.ctrl.policy = .fail →
      exec .optDec s = .next { s.failedWith .policyFail with
        problemCnt := countedUp s.problemCnt
        status := { s.status.failed .policyFail with problem := true, probcode := .dupOption } }) ∧
    (s.ctrl.policy ≠ .fail →
      exec .optDec s = .next { s with
        res0 := BitVec.ofNat 64 code
        res1 := BitVec.ofNat 64 len
        res2 := BitVec.ofNat 64 (s.cursor + 4)
        res3 := BitVec.ofNat 64 (s.cursor + 4 + ceil4 len)
        problemCnt := countedUp s.problemCnt
        info := { s.recordInfo code with
          dup := true
          discard := decide (s.ctrl.policy = .fix ∧ s.ctrl.dupkeep = false)
          supersedes := decide (s.ctrl.policy = .fix ∧ s.ctrl.dupkeep = true) }
        status := { s.status.succeeded with
          problem := true, probcode := .dupOption, warn := s.status.warn || decide (s.ctrl.policy = .warn) } })

/-- R145's errors, in their order: NO_SECTION, BOUNDS of the cursor, USAGE_ERROR, BOUNDS of the record. -/
def Obligations.OptEncErrors : Prop :=
  ∀ s : State,
    (s.ctrl.bov = false → exec .optEnc s = .next (s.failedWith .noSection)) ∧
    (s.ctrl.bov = true → s.limit > s.cfg.bufBytes ∨ s.cursor > s.limit → exec .optEnc s = .next (s.failedWith .bounds)) ∧
    (s.ctrl.bov = true → s.limit ≤ s.cfg.bufBytes → s.cursor ≤ s.limit →
      s.arg2 = 0 ∨ 0xFFFF < s.arg2.toNat ∨ 0xFFFF < s.arg3.toNat → exec .optEnc s = .next (s.failedWith .usageError)) ∧
    (s.ctrl.bov = true → s.limit ≤ s.cfg.bufBytes → s.cursor ≤ s.limit →
      s.arg2 ≠ 0 → s.arg2.toNat ≤ 0xFFFF → s.arg3.toNat ≤ 0xFFFF → s.limit < s.cursor + 4 + ceil4 s.arg3.toNat →
      exec .optEnc s = .next (s.failedWith .bounds))

/-- The bytes of a record that OPT_ENC wrote (R140, R145): code and length in the section byte order at the cursor, zero padding
after the value, and every other byte, the value's among them, as before. -/
def Obligations.OptEncWritesOneRecord : Prop :=
  ∀ s : State,
    s.ctrl.bov = true → s.limit ≤ s.cfg.bufBytes → s.cursor + 4 + ceil4 s.arg3.toNat ≤ s.limit →
    s.arg2 ≠ 0 → s.arg2.toNat ≤ 0xFFFF → s.arg3.toNat ≤ 0xFFFF →
    ¬(s.Duplicate s.arg2.toNat ∧ (s.ctrl.policy = .fail ∨ s.ctrl.policy = .fix)) →
    ∃ t, exec .optEnc s = .next t ∧
      (¬s.Duplicate s.arg2.toNat →
        t = { s with
          buf := t.buf
          res0 := s.arg2, res1 := s.arg3
          res2 := BitVec.ofNat 64 (s.cursor + 4)
          res3 := BitVec.ofNat 64 (s.cursor + 4 + ceil4 s.arg3.toNat)
          optSeen := s.seenWith s.arg2.toNat
          info := s.recordInfo s.arg2.toNat
          status := s.status.succeeded }) ∧
      (s.Duplicate s.arg2.toNat →
        t = { s with
          buf := t.buf
          res0 := s.arg2, res1 := s.arg3
          res2 := BitVec.ofNat 64 (s.cursor + 4)
          res3 := BitVec.ofNat 64 (s.cursor + 4 + ceil4 s.arg3.toNat)
          problemCnt := countedUp s.problemCnt
          info := { s.recordInfo s.arg2.toNat with dup := true }
          status := { s.status.succeeded with
            problem := true, probcode := .dupOption, warn := s.status.warn || decide (s.ctrl.policy = .warn) } }) ∧
      fromBytes s.ctrl.bo (t.load s.cursor 2) = s.arg2.toNat ∧
      fromBytes s.ctrl.bo (t.load (s.cursor + 2) 2) = s.arg3.toNat ∧
      (∀ a, s.cursor + 4 + s.arg3.toNat ≤ a → a < s.cursor + 4 + ceil4 s.arg3.toNat → t.byteAt a = 0) ∧
      ∀ a, a < s.cursor ∨ (s.cursor + 4 ≤ a ∧ a < s.cursor + 4 + s.arg3.toNat) ∨ s.cursor + 4 + ceil4 s.arg3.toNat ≤ a →
        t.byteAt a = s.byteAt a

/-- R142 on encode, R207 and R208: a duplicate under FAIL ends with POLICY_FAIL and writes no byte; under FIX the record is not
written, DISCARD is set and RES3 stays at the cursor, whatever DUPKEEP says. -/
def Obligations.OptEncDuplicateWritesNothing : Prop :=
  ∀ s : State,
    s.ctrl.bov = true → s.limit ≤ s.cfg.bufBytes → s.cursor + 4 + ceil4 s.arg3.toNat ≤ s.limit →
    s.arg2 ≠ 0 → s.arg2.toNat ≤ 0xFFFF → s.arg3.toNat ≤ 0xFFFF → s.Duplicate s.arg2.toNat →
    (s.ctrl.policy = .fail →
      exec .optEnc s = .next { s.failedWith .policyFail with
        problemCnt := countedUp s.problemCnt
        status := { s.status.failed .policyFail with problem := true, probcode := .dupOption } }) ∧
    (s.ctrl.policy = .fix →
      exec .optEnc s = .next { s with
        res0 := s.arg2, res1 := s.arg3
        res2 := BitVec.ofNat 64 (s.cursor + 4)
        res3 := s.arg0
        problemCnt := countedUp s.problemCnt
        info := { s.recordInfo s.arg2.toNat with dup := true, discard := true }
        status := { s.status.succeeded with problem := true, probcode := .dupOption } })

/-- R146: OPT_END writes four zero bytes at the cursor, needs no open section, and does not clear OPT_SEEN; BOUNDS otherwise.
Its word is 0x00000023. -/
def Obligations.OptEndWritesTheTerminator : Prop :=
  decode 0x00000023#32 = .ok .optEnd ∧
  ∀ s : State,
    (s.limit > s.cfg.bufBytes ∨ s.cursor > s.limit ∨ s.cursor + 4 > s.limit →
      exec .optEnd s = .next (s.failedWith .bounds)) ∧
    (s.limit ≤ s.cfg.bufBytes → s.cursor + 4 ≤ s.limit →
      ∃ t, exec .optEnd s = .next t ∧
        t = { s with
          buf := t.buf
          res0 := 0, res1 := 0
          res2 := BitVec.ofNat 64 (s.cursor + 4), res3 := BitVec.ofNat 64 (s.cursor + 4)
          info := { Info.zero with endMark := true }
          status := s.status.succeeded } ∧
        (∀ a, s.cursor ≤ a → a < s.cursor + 4 → t.byteAt a = 0) ∧
        ∀ a, a < s.cursor ∨ s.cursor + 4 ≤ a → t.byteAt a = s.byteAt a)

/-- R147: the round trip of an option list. OPT_BEGIN, OPT_ENC per record at successive RES3 cursors, OPT_END; then OPT_BEGIN and
OPT_DEC from the first cursor until INFO.END: the decode gives the codes and lengths of the list in order and the value addresses
of the encode, and every value byte is what it was. -/
def Obligations.OptionListsRoundTrip : Prop :=
  ∀ (s : State) (records : List (Nat × Nat)) (c lim : Nat),
    s.cfg.Legal → s.ctrl.bov = true → lim ≤ s.cfg.bufBytes → c + recordsBytes records + 4 ≤ lim →
    (∀ r ∈ records, 1 ≤ r.1 ∧ r.1 ≤ 0xFFFF ∧ r.2 ≤ 0xFFFF) →
    records.Pairwise (fun r r' => r.1 = r'.1 → ∀ i d, s.lookup r.1 = some (i, d) → d.mult = true) →
    ∃ (s0 s1 s2 s3 s4 : State) (encoded : List Record) (c' : Nat),
      succeeding .optBegin s = some s0 ∧
      encodeRecords lim records c s0 = some (encoded, c', s1) ∧
      succeeding .optEnd (s1.withArgs c' lim 0 0) = some s2 ∧
      succeeding .optBegin s2 = some s3 ∧
      decodeRecords lim (records.length + 1) c s3 = some (encoded, s4) ∧
      encoded.map (fun r => (r.1, r.2.1)) = records ∧
      ∀ r ∈ encoded, ∀ k, k < r.2.1 → s4.byteAt (r.2.2 + k) = s.byteAt (r.2.2 + k)

/-! ## Framer -/

/-- R174: FRAME_ENC. Type and both total lengths T = 12 + ceil4(L) in the section byte order, zero padding, every other byte (the
body's among them) as before; NO_SECTION, BOUNDS and USAGE_ERROR in their order, with nothing written. Its word is 0x00000030. -/
def Obligations.FrameEncWritesOneFrame : Prop :=
  decode 0x00000030#32 = .ok .frameEnc ∧
  ∀ (s : State) (total : Nat), total = 12 + ceil4 s.arg3.toNat →
    (s.ctrl.bov = false → exec .frameEnc s = .next (s.failedWith .noSection)) ∧
    (s.ctrl.bov = true → s.limit > s.cfg.bufBytes ∨ s.cursor > s.limit → exec .frameEnc s = .next (s.failedWith .bounds)) ∧
    (s.ctrl.bov = true → s.limit ≤ s.cfg.bufBytes → s.cursor ≤ s.limit →
      0xFFFFFFFF < s.arg2.toNat ∨ 0xFFFFFFFF < total → exec .frameEnc s = .next (s.failedWith .usageError)) ∧
    (s.ctrl.bov = true → s.limit ≤ s.cfg.bufBytes → s.cursor ≤ s.limit → s.arg2.toNat ≤ 0xFFFFFFFF → total ≤ 0xFFFFFFFF →
      s.limit < s.cursor + total → exec .frameEnc s = .next (s.failedWith .bounds)) ∧
    (s.ctrl.bov = true → s.limit ≤ s.cfg.bufBytes → s.arg2.toNat ≤ 0xFFFFFFFF → total ≤ 0xFFFFFFFF →
      s.cursor + total ≤ s.limit →
      ∃ t, exec .frameEnc s = .next t ∧
        t = { s with
          buf := t.buf
          res0 := s.arg2
          res1 := BitVec.ofNat 64 total
          res2 := BitVec.ofNat 64 (ceil4 s.arg3.toNat)
          res3 := BitVec.ofNat 64 (s.cursor + total)
          info := Info.zero
          status := s.status.succeeded } ∧
        fromBytes s.ctrl.bo (t.load s.cursor 4) = s.arg2.toNat ∧
        fromBytes s.ctrl.bo (t.load (s.cursor + 4) 4) = total ∧
        fromBytes s.ctrl.bo (t.load (s.cursor + total - 4) 4) = total ∧
        (∀ a, s.cursor + 8 + s.arg3.toNat ≤ a → a < s.cursor + total - 4 → t.byteAt a = 0) ∧
        ∀ a, a < s.cursor ∨ (s.cursor + 8 ≤ a ∧ a < s.cursor + 8 + s.arg3.toNat) ∨ s.cursor + total ≤ a →
          t.byteAt a = s.byteAt a)

/-- R176: DetectOrder gives LE exactly on 4D 3C 2B 1A, BE exactly on 1A 2B 3C 4D, and nothing on any other four bytes; the Section
Header's type bytes read 0x0A0D0D0A in both orders. -/
def Obligations.ByteOrderIsDetectedFromTheMagic : Prop :=
  (∀ m : List Byte, m.length = 4 →
    (detectOrder m = some .le ↔ m = [0x4D, 0x3C, 0x2B, 0x1A]) ∧
    (detectOrder m = some .be ↔ m = [0x1A, 0x2B, 0x3C, 0x4D])) ∧
  ∀ ord : ByteOrder, fromBytes ord shbTypeBytes = 0x0A0D0D0A

/-- R175's ends before a length is read: BOUNDS; EOS at the limit, with no error and no section needed; TRUNCATED headers;
NO_SECTION for a frame that is no Section Header; a Section Header whose magic does not fit, or that no order reproduces. -/
def Obligations.FrameDecEndsAndHeaderErrors : Prop :=
  ∀ s : State,
    (s.limit > s.cfg.bufBytes ∨ s.cursor > s.limit → exec .frameDec s = .next (s.failedWith .bounds)) ∧
    (s.limit ≤ s.cfg.bufBytes → s.cursor = s.limit →
      exec .frameDec s = .next { s with
        res0 := 0, res1 := 0, res2 := 0, res3 := s.arg0
        info := { Info.zero with eos := true }
        status := s.status.succeeded }) ∧
    (s.limit ≤ s.cfg.bufBytes → s.cursor < s.limit → s.limit < s.cursor + 8 →
      exec .frameDec s = .next (s.failedWith .truncated)) ∧
    (s.limit ≤ s.cfg.bufBytes → s.cursor + 8 ≤ s.limit → s.load s.cursor 4 ≠ [0x0A, 0x0D, 0x0D, 0x0A] → s.ctrl.bov = false →
      exec .frameDec s = .next (s.failedWith .noSection)) ∧
    (s.limit ≤ s.cfg.bufBytes → s.cursor + 8 ≤ s.limit → s.load s.cursor 4 = [0x0A, 0x0D, 0x0D, 0x0A] →
      (s.limit < s.cursor + 12 → exec .frameDec s = .next (s.failedWith .truncated)) ∧
      (s.cursor + 12 ≤ s.limit →
        s.load (s.cursor + 8) 4 ≠ [0x4D, 0x3C, 0x2B, 0x1A] → s.load (s.cursor + 8) 4 ≠ [0x1A, 0x2B, 0x3C, 0x4D] →
        exec .frameDec s = .next (s.failedWith .badMagic)))

/-- R175 and R172 for a frame that is no Section Header, in the section byte order: FRAME_LENGTH_INVALID, TRUNCATED and
FRAME_LENGTH_MISMATCH in their order; otherwise type, T, B = T - 12 and the next base, the trailer read at 8 + ceil4(B). BUF, CTRL
and every other register are unchanged. The statement takes in every T: where T is not a multiple of 4, the trailer's place is the
choice of assumption 18 (R172's decision D19, item I7: not backed by the source; DEDUCED, unsafe). -/
def Obligations.FrameDecDecodesAFrame : Prop :=
  ∀ (s : State) (total off : Nat),
    s.limit ≤ s.cfg.bufBytes → s.cursor + 8 ≤ s.limit → s.load s.cursor 4 ≠ [0x0A, 0x0D, 0x0D, 0x0A] → s.ctrl.bov = true →
    total = fromBytes s.ctrl.bo (s.load (s.cursor + 4) 4) → off = 8 + ceil4 (total - 12) →
    (total < 12 → exec .frameDec s = .next (s.failedWith .frameLengthInvalid)) ∧
    (12 ≤ total → s.limit < s.cursor + off + 4 → exec .frameDec s = .next (s.failedWith .truncated)) ∧
    (12 ≤ total → s.cursor + off + 4 ≤ s.limit → fromBytes s.ctrl.bo (s.load (s.cursor + off) 4) ≠ total →
      exec .frameDec s = .next (s.failedWith .frameLengthMismatch)) ∧
    (12 ≤ total → s.cursor + off + 4 ≤ s.limit → fromBytes s.ctrl.bo (s.load (s.cursor + off) 4) = total →
      exec .frameDec s = .next { s with
        res0 := BitVec.ofNat 64 (fromBytes s.ctrl.bo (s.load s.cursor 4))
        res1 := BitVec.ofNat 64 total
        res2 := BitVec.ofNat 64 (total - 12)
        res3 := BitVec.ofNat 64 (s.cursor + off + 4)
        info := Info.zero
        status := s.status.succeeded })

/-- R175 to R177 for a Section Header whose magic spells order `ord`: its lengths are read in that order, T < 16 is
FRAME_LENGTH_INVALID, a failure changes neither BO nor BOV, and success opens the section: CTRL.BO, CTRL.BOV, INFO.SHB and
INFO.DETBO. No section need be open. The trailer's place where T is not a multiple of 4 is the choice of assumption 18 (R172's
decision D19, item I7: not backed by the source; DEDUCED, unsafe). -/
def Obligations.FrameDecOpensASection : Prop :=
  ∀ (s : State) (ord : ByteOrder) (total off : Nat),
    s.limit ≤ s.cfg.bufBytes → s.cursor + 12 ≤ s.limit → s.load s.cursor 4 = [0x0A, 0x0D, 0x0D, 0x0A] →
    s.load (s.cursor + 8) 4 = (if ord = .le then [0x4D, 0x3C, 0x2B, 0x1A] else [0x1A, 0x2B, 0x3C, 0x4D]) →
    total = fromBytes ord (s.load (s.cursor + 4) 4) → off = 8 + ceil4 (total - 12) →
    (total < 16 → exec .frameDec s = .next (s.failedWith .frameLengthInvalid)) ∧
    (16 ≤ total → s.limit < s.cursor + off + 4 → exec .frameDec s = .next (s.failedWith .truncated)) ∧
    (16 ≤ total → s.cursor + off + 4 ≤ s.limit → fromBytes ord (s.load (s.cursor + off) 4) ≠ total →
      exec .frameDec s = .next (s.failedWith .frameLengthMismatch)) ∧
    (16 ≤ total → s.cursor + off + 4 ≤ s.limit → fromBytes ord (s.load (s.cursor + off) 4) = total →
      exec .frameDec s = .next { s with
        res0 := 0x0A0D0D0A
        res1 := BitVec.ofNat 64 total
        res2 := BitVec.ofNat 64 (total - 12)
        res3 := BitVec.ofNat 64 (s.cursor + off + 4)
        ctrl := { s.ctrl with bo := ord, bov := true }
        info := { Info.zero with shb := true, detbo := ord }
        status := s.status.succeeded })

/-- R178: a FRAME_DEC at the base of a frame that FRAME_ENC wrote succeeds, with RES0 = type, RES1 = T = 12 + ceil4(L),
RES2 = ceil4(L) and RES3 = base + T; a Section Header with the magic in place opens its section in the order it was written. -/
def Obligations.FramesRoundTrip : Prop :=
  ∀ (s t : State) (lim : Nat),
    s.cfg.Legal → exec .frameEnc s = .next t → t.status.errcode = .ok →
    s.cursor + 12 + ceil4 s.arg3.toNat ≤ lim → lim ≤ s.cfg.bufBytes →
    (s.arg2 = 0x0A0D0D0A → 4 ≤ s.arg3.toNat ∧ s.load (s.cursor + 8) 4 = toBytes 0x1A2B3C4D 4 s.ctrl.bo) →
    ∃ u, exec .frameDec (t.withArgs s.cursor lim 0 0) = .next u ∧ u.status.errcode = .ok ∧
      u.res0 = s.arg2 ∧
      u.res1 = BitVec.ofNat 64 (12 + ceil4 s.arg3.toNat) ∧
      u.res2 = BitVec.ofNat 64 (ceil4 s.arg3.toNat) ∧
      u.res3 = BitVec.ofNat 64 (s.cursor + 12 + ceil4 s.arg3.toNat) ∧
      u.ctrl = s.ctrl ∧ (u.info.shb = true ↔ s.arg2 = 0x0A0D0D0A)

/-! ## Host accesses, resets, interrupt -/

/-- R41: the value of every register after a hard reset and after a soft reset, irq deasserted, and BUF unchanged by a soft reset.
(BUF after a hard reset is a draw, of which nothing is said.) -/
def Obligations.ResetsSetEveryRegister : Prop :=
  ∀ (s t : State), t = s.hardReset ∨ t = s.softReset ∨ t = State.reset →
    (∀ r : Reg, t.readReg r = if r = .id then 0x0000000150424631 else if r = .ctrl then 0xC else 0) ∧
    t.irq = false ∧
    (t = s.softReset → ∀ a, t.byteAt a = s.byteAt a)

/-- R231: a host write of CTRL with bit 63 = 1 resets every register, keeps BUF, cancels a latched command, and is honoured also
while BUSY = 1; the write's other bits are discarded. -/
def Obligations.SoftResetIsAlwaysHonoured : Prop :=
  ∀ (s : State) (v : Word), v.getLsbD 63 = true →
    ∃ t, hostWrite (s.cfg.apertureBase + 0x008) .b8 v s = .next t ∧
      (∀ r : Reg, t.readReg r = State.reset.readReg r) ∧ t.status.busy = false ∧ t.cfg = s.cfg ∧
      ∀ a, t.byteAt a = s.byteAt a

/-- R236: while BUSY = 1 a host write to a register other than STATUS, or to BUF, changes nothing and sets OVR; a CTRL write with
SRST = 1 (it performs the soft reset) and a STATUS write are the exceptions. (That a write to a reserved offset also sets OVR is the model's reading,
assumption 8.) -/
def Obligations.WritesWhileBusyAreDropped : Prop :=
  ∀ (s : State) (addr : Nat) (width : AccessWidth) (v : Word), s.status.busy = true →
    (∀ r, target s.cfg addr width = .register r → r ≠ .status → ¬(r = .ctrl ∧ v.getLsbD 63 = true) →
      hostWrite addr width v s = .next { s with status := { s.status with ovr := true } }) ∧
    (∀ a, target s.cfg addr width = .window a →
      hostWrite addr width v s = .next { s with status := { s.status with ovr := true } }) ∧
    (target s.cfg addr width = .register .ctrl → v.getLsbD 63 = true → hostWrite addr width v s = .next s.softReset) ∧
    (target s.cfg addr width = .register .status →
      hostWrite addr width v s = .next { s with status := s.status.writeOneToClear v })

/-- R69: host reads have no side effect: a read changes only what the host has received, and (while BUSY = 1) which draw comes next. -/
def Obligations.HostReadsHaveNoSideEffect : Prop :=
  ∀ (s t : State) (addr : Nat) (width : AccessWidth), hostRead addr width s = .next t →
    t = { s with busRead := t.busRead, readDraw := t.readDraw } ∧
    (s.status.busy = false → t.readDraw = s.readDraw ∧ hostRead addr width t = .next t)

/-- R72: while BUSY = 1 an 8-byte host read of ID, CTRL, STATUS, PROBLEM_CNT, CMD, an ARG register, OPT_KIND or an OPT_DESC entry
delivers its value, and so do the fields of FW_CFG but VALID and of an FW_FIELD entry but OFFSET. (That the reserved bits of FW_CFG
and FW_FIELD, the reserved offsets and the offsets past BUF read 0, as R40 says, also while BUSY = 1 is the model's reading,
assumption 2: DEDUCED, unsafe; that the offsets past BUF have no end is assumption 11.) -/
def Obligations.ReadsWhileBusyOfStableRegisters : Prop :=
  ∀ (s : State), s.status.busy = true →
    (∀ p ∈ registerMap, p.2 ∉ [Reg.res0, .res1, .res2, .res3, .info, .optSeen, .fwValue, .fwCfg] →
      s.HostReads p.1 (s.readReg p.2)) ∧
    (∀ i, i < 32 → s.HostReads (0x100 + 8 * i) (s.readReg (.optDesc i))) ∧
    (∃ v, s.HostReads 0x088 v ∧ v &&& ~~~0x10000#64 = s.readReg .fwCfg &&& ~~~0x10000#64) ∧
    (∀ j, j < 16 → ∃ v, s.HostReads (0x200 + 8 * j) v ∧
      v &&& ~~~0x3F00000000000000#64 = s.readReg (.fwField j) &&& ~~~0x3F00000000000000#64) ∧
    ∀ off, (off % 8 = 0 ∧ ((0x090 ≤ off ∧ off < 0x100) ∨ (0x280 ≤ off ∧ off < 0x10000))) ∨ 0x10000 + s.cfg.bufBytes ≤ off →
      s.HostReads off 0

/-- R67: a host access below offset 0x10000 that is not 8 bytes wide at an 8-aligned offset is refused; every 8-byte access at an
8-aligned offset, and every access from 0x10000 on, is performed. R67 speaks of registers: that the refusal takes in the reserved
offsets below 0x10000, holds while BUSY = 1 and stops the whole step is the model's reading (assumption 10, DEDUCED), and so is that
the space from 0x10000 on has no upper end (assumption 11, DEDUCED). -/
def Obligations.RegisterAccessesAreEightBytesAligned : Prop :=
  ∀ (s : State) (off : Nat) (width : AccessWidth) (v : Word),
    (off < 0x10000 → ¬(width = .b8 ∧ off % 8 = 0) →
      hostWrite (s.cfg.apertureBase + off) width v s = .refused .registerAccess ∧
      hostRead (s.cfg.apertureBase + off) width s = .refused .registerAccess) ∧
    (0x10000 ≤ off ∨ (width = .b8 ∧ off % 8 = 0) →
      (∃ t, hostWrite (s.cfg.apertureBase + off) width v s = .next t) ∧
      ∃ t, hostRead (s.cfg.apertureBase + off) width s = .next t)

/-- R64: a host write of n bytes at window address a writes the datum's bytes little-endian at BUF[a .. a+n-1], whatever CTRL.BO
says, only those inside BUF, and nothing else; a host read returns the bytes little-endian, those past BUF as 0. -/
def Obligations.WindowAccessesAreLittleEndian : Prop :=
  ∀ (s : State) (a : Nat) (width : AccessWidth) (v : Word), s.status.busy = false →
    (∃ t, hostWrite (s.cfg.apertureBase + 0x10000 + a) width v s = .next t ∧ t = { s with buf := t.buf } ∧
      (∀ k, k < width.bytes → a + k < s.cfg.bufBytes → t.byteAt (a + k) = v.extractLsb' (8 * k) 8) ∧
      ∀ b, b < a ∨ a + width.bytes ≤ b ∨ s.cfg.bufBytes ≤ b → t.byteAt b = s.byteAt b) ∧
    ∃ t, hostRead (s.cfg.apertureBase + 0x10000 + a) width s = .next t ∧
      (∀ k, k < width.bytes → t.busRead.extractLsb' (8 * k) 8 = if a + k < s.cfg.bufBytes then s.byteAt (a + k) else 0) ∧
      t.busRead.toNat < 256 ^ width.bytes

/-- R40: writes to read-only registers and to reserved offsets, and to offsets past BUF, are ignored without error, and reserved
offsets read 0. (That the offsets past BUF have no upper end is the model's reading, assumption 11.) -/
def Obligations.ReservedAndReadOnlyIgnoreWrites : Prop :=
  ∀ (s : State) (off : Nat) (width : AccessWidth) (v : Word), s.status.busy = false →
    (off % 8 = 0 → off = 0 ∨ off = 0x028 ∨ (0x050 ≤ off ∧ off ≤ 0x068) →
      hostWrite (s.cfg.apertureBase + off) .b8 v s = .next s) ∧
    (off % 8 = 0 → (0x090 ≤ off ∧ off < 0x100) ∨ (0x280 ≤ off ∧ off < 0x10000) →
      hostWrite (s.cfg.apertureBase + off) .b8 v s = .next s ∧
      hostRead (s.cfg.apertureBase + off) .b8 s = .next { s with busRead := 0 }) ∧
    (0x10000 + s.cfg.bufBytes ≤ off →
      hostWrite (s.cfg.apertureBase + off) width v s = .next s ∧
      hostRead (s.cfg.apertureBase + off) width s = .next { s with busRead := 0 })

/-- The bits a host can store in a register, by its offset (R22 to R38): after an 8-byte write while idle, an 8-byte read at the same
offset delivers the datum written under the mask of the register's writable bits; reserved bits read 0 and OFFSET keeps its value;
FW_CFG.VALID is 0 after a write to FW_CFG or to any FW_FIELD (R37). Nothing else changes. -/
def Obligations.RegisterWritesReadBack : Prop :=
  ∀ (s : State) (v : Word), s.status.busy = false →
    (v.getLsbD 63 = false → ∃ t, hostWrite (s.cfg.apertureBase + 0x008) .b8 v s = .next t ∧
      t = { s with ctrl := t.ctrl } ∧ t.HostReads 0x008 (v &&& 0x71F)) ∧
    (∃ t, hostWrite (s.cfg.apertureBase + 0x030) .b8 v s = .next t ∧ t = { s with arg0 := v } ∧ t.HostReads 0x030 v) ∧
    (∃ t, hostWrite (s.cfg.apertureBase + 0x038) .b8 v s = .next t ∧ t = { s with arg1 := v } ∧ t.HostReads 0x038 v) ∧
    (∃ t, hostWrite (s.cfg.apertureBase + 0x040) .b8 v s = .next t ∧ t = { s with arg2 := v } ∧ t.HostReads 0x040 v) ∧
    (∃ t, hostWrite (s.cfg.apertureBase + 0x048) .b8 v s = .next t ∧ t = { s with arg3 := v } ∧ t.HostReads 0x048 v) ∧
    (∃ t, hostWrite (s.cfg.apertureBase + 0x080) .b8 v s = .next t ∧ t = { s with fwValue := v } ∧ t.HostReads 0x080 v) ∧
    (∃ t, hostWrite (s.cfg.apertureBase + 0x070) .b8 v s = .next t ∧
      t = { s with optKind := t.optKind } ∧ t.HostReads 0x070 (v &&& 0xFF)) ∧
    (∃ t, hostWrite (s.cfg.apertureBase + 0x078) .b8 v s = .next t ∧
      t = { s with optSeen := t.optSeen } ∧ t.HostReads 0x078 (v &&& 0xFFFFFFFF)) ∧
    (∃ t, hostWrite (s.cfg.apertureBase + 0x088) .b8 v s = .next t ∧
      t = { s with fwCfg := t.fwCfg } ∧ t.HostReads 0x088 (v &&& 0x1F7F)) ∧
    (∀ i, i < 32 → ∃ t, hostWrite (s.cfg.apertureBase + 0x100 + 8 * i) .b8 v s = .next t ∧
      t = { s with optDesc := t.optDesc } ∧ t.HostReads (0x100 + 8 * i) (v &&& 0xBFFFFFFF) ∧
      ∀ k, k ≠ i → t.desc k = s.desc k) ∧
    ∀ j, j < 16 → ∃ t, hostWrite (s.cfg.apertureBase + 0x200 + 8 * j) .b8 v s = .next t ∧
      t = { s with fwField := t.fwField, fwCfg := { s.fwCfg with valid := false } } ∧
      t.HostReads (0x200 + 8 * j) ((v &&& 0x0000FFFF00007F03) ||| (s.readReg (.fwField j) &&& 0x3F00000000000000)) ∧
      ∀ k, k ≠ j → t.field k = s.field k

/-- R27 and R28: a STATUS write clears each of bits 1 to 5 where it holds a 1 and keeps it where it holds a 0, and changes no other
bit, as the next read of STATUS shows; a PROBLEM_CNT write of any value sets it to 0. STATUS is written so also while BUSY = 1
(R236). -/
def Obligations.StatusIsWriteOneToClear : Prop :=
  ∀ (s : State) (v : Word),
    (∃ t, hostWrite (s.cfg.apertureBase + 0x010) .b8 v s = .next t ∧ t = { s with status := t.status } ∧
      t.HostReads 0x010 (s.readReg .status &&& ~~~(v &&& 0x3E))) ∧
    (s.status.busy = false → hostWrite (s.cfg.apertureBase + 0x018) .b8 v s = .next { s with problemCnt := 0 })

/-- R213: irq is the OR of DONE, ERR and WARN, each with its enable; a STATUS write of those bits, or a CTRL write that clears the
enables, deasserts it. -/
def Obligations.IrqFollowsStatusAndEnables : Prop :=
  ∀ s : State,
    (s.irq = true ↔ (s.status.done = true ∧ s.ctrl.ieDone = true) ∨ (s.status.err = true ∧ s.ctrl.ieErr = true) ∨
      (s.status.warn = true ∧ s.ctrl.ieWarn = true)) ∧
    (∃ t, hostWrite (s.cfg.apertureBase + 0x010) .b8 0xE s = .next t ∧ t.irq = false) ∧
    (s.status.busy = false →
      ∃ t, hostWrite (s.cfg.apertureBase + 0x008) .b8 (s.readReg .ctrl &&& ~~~0x700#64) s = .next t ∧
        t.irq = false ∧ t.ctrl = { s.ctrl with ieDone := false, ieErr := false, ieWarn := false })

/-! ## The whole machine -/

/-- The machine invariant holds after reset. -/
def Obligations.ResetMeetsTheInvariant : Prop := State.reset.Inv

/-- Every step keeps the machine invariant: legal parameters; BUF's written bytes canonical and inside BUF; a VALID schema is one
FLAG_CONFIG accepts, with the offsets of R120; INFO is 0 while the latest outcome is an error. -/
def Obligations.EveryStepKeepsTheInvariant : Prop :=
  ∀ s t : State, s.Inv → step s = .next t → t.Inv

/-- R63: the byte order changes only by a host write of CTRL (a soft reset among them), by a FRAME_DEC that decoded a Section
Header, or by a hard reset; no step of any other kind changes CTRL.BO or CTRL.BOV. -/
def Obligations.OnlyThreeEventsChangeTheByteOrder : Prop :=
  ∀ s t : State, step s = .next t → (t.ctrl.bo ≠ s.ctrl.bo ∨ t.ctrl.bov ≠ s.ctrl.bov) →
    (∃ addr width v ts, s.turns = .write addr width v :: ts ∧ target s.cfg addr width = .register .ctrl) ∨
    (∃ ts, s.turns = .hardReset :: ts) ∨
    ((s.turns = [] ∨ ∃ ts, s.turns = .engine :: ts) ∧ s.status.busy = true ∧ decode s.cmd = .ok .frameDec ∧
      t.status.errcode = .ok ∧ t.info.shb = true ∧ t.ctrl.bov = true ∧ t.ctrl.bo = t.info.detbo)

/-- R239: OPT_SEEN persists until OPT_BEGIN, a host write of OPT_SEEN, or a reset: no other step clears a bit of it. -/
def Obligations.SeenBitsPersist : Prop :=
  ∀ (s t : State) (i : Nat), step s = .next t → s.optSeen.getLsbD i = true → t.optSeen.getLsbD i = false →
    ((s.turns = [] ∨ ∃ ts, s.turns = .engine :: ts) ∧ s.status.busy = true ∧ decode s.cmd = .ok .optBegin) ∨
    (∃ addr width v ts, s.turns = .write addr width v :: ts ∧
      (target s.cfg addr width = .register .optSeen ∨
        (target s.cfg addr width = .register .ctrl ∧ v.getLsbD 63 = true))) ∨
    (∃ ts, s.turns = .hardReset :: ts)

/-! ## Host reads of the registers -/

/-- Section 2 of 10_state.md: while BUSY = 0 an 8-byte host read at a register's offset delivers that register's word, for every
offset of the table (R61, R69). Which field each bit of the word is, the next statement says. -/
def Obligations.HostReadsDeliverTheRegisterAtTheOffset : Prop :=
  ∀ s : State, s.status.busy = false →
    (∀ p ∈ registerMap, s.HostReads p.1 (s.readReg p.2)) ∧
    (∀ i, i < 32 → s.HostReads (0x100 + 8 * i) (s.readReg (.optDesc i))) ∧
    ∀ j, j < 16 → s.HostReads (0x200 + 8 * j) (s.readReg (.fwField j))

/-- R21 to R38, with the code numbers of R201 and R210: the bits of every register's word hold the fields the tables of 10_state.md
name there, and every reserved bit is 0. -/
def Obligations.RegisterWordsHoldTheirFields : Prop :=
  ∀ s : State,
    s.readReg .id = 0x0000000150424631 ∧
    (s.readReg .ctrl &&& ~~~0x71F#64 = 0 ∧
      ((s.readReg .ctrl).getLsbD 0 = true ↔ s.ctrl.bo = .be) ∧ (s.readReg .ctrl).getLsbD 1 = s.ctrl.bov ∧
      (s.readReg .ctrl).extractLsb' 2 2 = (match s.ctrl.policy with | .ignore => 0#2 | .warn => 1 | .fix => 2 | .fail => 3) ∧
      (s.readReg .ctrl).getLsbD 4 = s.ctrl.dupkeep ∧ (s.readReg .ctrl).getLsbD 8 = s.ctrl.ieDone ∧
      (s.readReg .ctrl).getLsbD 9 = s.ctrl.ieErr ∧ (s.readReg .ctrl).getLsbD 10 = s.ctrl.ieWarn) ∧
    (s.readReg .status &&& ~~~0xFFFF3F#64 = 0 ∧
      (s.readReg .status).getLsbD 0 = s.status.busy ∧ (s.readReg .status).getLsbD 1 = s.status.done ∧
      (s.readReg .status).getLsbD 2 = s.status.err ∧ (s.readReg .status).getLsbD 3 = s.status.warn ∧
      (s.readReg .status).getLsbD 4 = s.status.problem ∧ (s.readReg .status).getLsbD 5 = s.status.ovr ∧
      (s.readReg .status).extractLsb' 8 8 = (match s.status.errcode with
        | .ok => 0x00#8
        | .frameLengthMismatch => 0x01
        | .lengthMismatch => 0x02
        | .badMagic => 0x03
        | .policyFail => 0x04
        | .usageError => 0x05
        | .illegalCmd => 0x10
        | .noSection => 0x11
        | .truncated => 0x12
        | .frameLengthInvalid => 0x13
        | .bounds => 0x14) ∧
      (s.readReg .status).extractLsb' 16 8 = (match s.status.probcode with | .none => 0x00#8 | .dupOption => 0x01)) ∧
    (s.readReg .info &&& ~~~0x11F1F3F07#64 = 0 ∧
      (s.readReg .info).getLsbD 0 = s.info.eos ∧ (s.readReg .info).getLsbD 1 = s.info.shb ∧
      ((s.readReg .info).getLsbD 2 = true ↔ s.info.detbo = .be) ∧ (s.readReg .info).getLsbD 8 = s.info.endMark ∧
      (s.readReg .info).getLsbD 9 = s.info.implicitEnd ∧ (s.readReg .info).getLsbD 10 = s.info.known ∧
      (s.readReg .info).getLsbD 11 = s.info.dup ∧ (s.readReg .info).getLsbD 12 = s.info.discard ∧
      (s.readReg .info).getLsbD 13 = s.info.supersedes ∧ (s.readReg .info).extractLsb' 16 5 = s.info.didx ∧
      (s.readReg .info).extractLsb' 24 5 = s.info.type ∧ (s.readReg .info).getLsbD 32 = s.info.invalid) ∧
    (s.readReg .problemCnt = s.problemCnt ∧ s.readReg .cmd = s.cmd.setWidth 64 ∧
      s.readReg .arg0 = s.arg0 ∧ s.readReg .arg1 = s.arg1 ∧ s.readReg .arg2 = s.arg2 ∧ s.readReg .arg3 = s.arg3 ∧
      s.readReg .res0 = s.res0 ∧ s.readReg .res1 = s.res1 ∧ s.readReg .res2 = s.res2 ∧ s.readReg .res3 = s.res3 ∧
      s.readReg .optKind = s.optKind.setWidth 64 ∧ s.readReg .optSeen = s.optSeen.setWidth 64 ∧
      s.readReg .fwValue = s.fwValue) ∧
    (∀ i, s.readReg (.optDesc i) &&& ~~~0xBFFFFFFF#64 = 0 ∧
      (s.readReg (.optDesc i)).extractLsb' 0 16 = (s.desc i).code ∧ (s.readReg (.optDesc i)).extractLsb' 16 8 = (s.desc i).kind ∧
      (s.readReg (.optDesc i)).extractLsb' 24 5 = (s.desc i).type ∧ (s.readReg (.optDesc i)).getLsbD 29 = (s.desc i).mult ∧
      (s.readReg (.optDesc i)).getLsbD 31 = (s.desc i).valid) ∧
    (s.readReg .fwCfg &&& ~~~0x11F7F#64 = 0 ∧
      (s.readReg .fwCfg).extractLsb' 0 7 = s.fwCfg.w ∧ (s.readReg .fwCfg).extractLsb' 8 5 = s.fwCfg.nf ∧
      (s.readReg .fwCfg).getLsbD 16 = s.fwCfg.valid) ∧
    ∀ j, s.readReg (.fwField j) &&& ~~~0x3F00FFFF00007F03#64 = 0 ∧
      (s.readReg (.fwField j)).extractLsb' 0 2 =
        (match (s.field j).kind with | .bool => 0#2 | .uint => 1 | .enum => 2 | .reserved => 3) ∧
      (s.readReg (.fwField j)).extractLsb' 8 7 = (s.field j).width ∧
      (s.readReg (.fwField j)).extractLsb' 32 16 = (s.field j).nsym ∧
      (s.readReg (.fwField j)).extractLsb' 56 6 = (s.field j).offset
end

