-- ==== Sys2Proof/Laws/State.lean ====
section
/-! SUPPORT. One lemma per field per named update of State, each true by rfl: what an update writes and what it leaves alone. -/

namespace Sys2Proof.Machine

/-! ### start -/

@[simp] theorem State.start_cfg (s : State) :
    (s.start).cfg = s.cfg := rfl
@[simp] theorem State.start_ctrl (s : State) :
    (s.start).ctrl = s.ctrl := rfl
@[simp] theorem State.start_status (s : State) :
    (s.start).status = s.status := rfl
@[simp] theorem State.start_problemCnt (s : State) :
    (s.start).problemCnt = s.problemCnt := rfl
@[simp] theorem State.start_cmd (s : State) :
    (s.start).cmd = s.cmd := rfl
@[simp] theorem State.start_info (s : State) :
    (s.start).info = Info.zero := rfl
@[simp] theorem State.start_arg0 (s : State) :
    (s.start).arg0 = s.arg0 := rfl
@[simp] theorem State.start_arg1 (s : State) :
    (s.start).arg1 = s.arg1 := rfl
@[simp] theorem State.start_arg2 (s : State) :
    (s.start).arg2 = s.arg2 := rfl
@[simp] theorem State.start_arg3 (s : State) :
    (s.start).arg3 = s.arg3 := rfl
@[simp] theorem State.start_res0 (s : State) :
    (s.start).res0 = s.res0 := rfl
@[simp] theorem State.start_res1 (s : State) :
    (s.start).res1 = s.res1 := rfl
@[simp] theorem State.start_res2 (s : State) :
    (s.start).res2 = s.res2 := rfl
@[simp] theorem State.start_res3 (s : State) :
    (s.start).res3 = s.res3 := rfl
@[simp] theorem State.start_optKind (s : State) :
    (s.start).optKind = s.optKind := rfl
@[simp] theorem State.start_optSeen (s : State) :
    (s.start).optSeen = s.optSeen := rfl
@[simp] theorem State.start_optDesc (s : State) :
    (s.start).optDesc = s.optDesc := rfl
@[simp] theorem State.start_fwValue (s : State) :
    (s.start).fwValue = s.fwValue := rfl
@[simp] theorem State.start_fwCfg (s : State) :
    (s.start).fwCfg = s.fwCfg := rfl
@[simp] theorem State.start_fwField (s : State) :
    (s.start).fwField = s.fwField := rfl
@[simp] theorem State.start_buf (s : State) :
    (s.start).buf = s.buf := rfl
@[simp] theorem State.start_bufDraw (s : State) :
    (s.start).bufDraw = s.bufDraw := rfl
@[simp] theorem State.start_readDraw (s : State) :
    (s.start).readDraw = s.readDraw := rfl
@[simp] theorem State.start_turns (s : State) :
    (s.start).turns = s.turns := rfl
@[simp] theorem State.start_busRead (s : State) :
    (s.start).busRead = s.busRead := rfl

/-! ### finish -/

@[simp] theorem State.finish_cfg (s : State) (e : ErrorCode) :
    (s.finish e).cfg = s.cfg := rfl
@[simp] theorem State.finish_ctrl (s : State) (e : ErrorCode) :
    (s.finish e).ctrl = s.ctrl := rfl
@[simp] theorem State.finish_status (s : State) (e : ErrorCode) :
    (s.finish e).status = { s.status with busy := false, done := true, err := s.status.err || e != .ok, errcode := e } := rfl
@[simp] theorem State.finish_problemCnt (s : State) (e : ErrorCode) :
    (s.finish e).problemCnt = s.problemCnt := rfl
@[simp] theorem State.finish_cmd (s : State) (e : ErrorCode) :
    (s.finish e).cmd = s.cmd := rfl
@[simp] theorem State.finish_info (s : State) (e : ErrorCode) :
    (s.finish e).info = s.info := rfl
@[simp] theorem State.finish_arg0 (s : State) (e : ErrorCode) :
    (s.finish e).arg0 = s.arg0 := rfl
@[simp] theorem State.finish_arg1 (s : State) (e : ErrorCode) :
    (s.finish e).arg1 = s.arg1 := rfl
@[simp] theorem State.finish_arg2 (s : State) (e : ErrorCode) :
    (s.finish e).arg2 = s.arg2 := rfl
@[simp] theorem State.finish_arg3 (s : State) (e : ErrorCode) :
    (s.finish e).arg3 = s.arg3 := rfl
@[simp] theorem State.finish_res0 (s : State) (e : ErrorCode) :
    (s.finish e).res0 = s.res0 := rfl
@[simp] theorem State.finish_res1 (s : State) (e : ErrorCode) :
    (s.finish e).res1 = s.res1 := rfl
@[simp] theorem State.finish_res2 (s : State) (e : ErrorCode) :
    (s.finish e).res2 = s.res2 := rfl
@[simp] theorem State.finish_res3 (s : State) (e : ErrorCode) :
    (s.finish e).res3 = s.res3 := rfl
@[simp] theorem State.finish_optKind (s : State) (e : ErrorCode) :
    (s.finish e).optKind = s.optKind := rfl
@[simp] theorem State.finish_optSeen (s : State) (e : ErrorCode) :
    (s.finish e).optSeen = s.optSeen := rfl
@[simp] theorem State.finish_optDesc (s : State) (e : ErrorCode) :
    (s.finish e).optDesc = s.optDesc := rfl
@[simp] theorem State.finish_fwValue (s : State) (e : ErrorCode) :
    (s.finish e).fwValue = s.fwValue := rfl
@[simp] theorem State.finish_fwCfg (s : State) (e : ErrorCode) :
    (s.finish e).fwCfg = s.fwCfg := rfl
@[simp] theorem State.finish_fwField (s : State) (e : ErrorCode) :
    (s.finish e).fwField = s.fwField := rfl
@[simp] theorem State.finish_buf (s : State) (e : ErrorCode) :
    (s.finish e).buf = s.buf := rfl
@[simp] theorem State.finish_bufDraw (s : State) (e : ErrorCode) :
    (s.finish e).bufDraw = s.bufDraw := rfl
@[simp] theorem State.finish_readDraw (s : State) (e : ErrorCode) :
    (s.finish e).readDraw = s.readDraw := rfl
@[simp] theorem State.finish_turns (s : State) (e : ErrorCode) :
    (s.finish e).turns = s.turns := rfl
@[simp] theorem State.finish_busRead (s : State) (e : ErrorCode) :
    (s.finish e).busRead = s.busRead := rfl

/-! ### report -/

@[simp] theorem State.report_cfg (s : State) (p : ProblemCode) :
    (s.report p).cfg = s.cfg := rfl
@[simp] theorem State.report_ctrl (s : State) (p : ProblemCode) :
    (s.report p).ctrl = s.ctrl := rfl
@[simp] theorem State.report_status (s : State) (p : ProblemCode) :
    (s.report p).status = { s.status with problem := true, probcode := p, warn := s.status.warn || s.ctrl.policy == .warn } := rfl
@[simp] theorem State.report_problemCnt (s : State) (p : ProblemCode) :
    (s.report p).problemCnt = bumpCount s.problemCnt := rfl
@[simp] theorem State.report_cmd (s : State) (p : ProblemCode) :
    (s.report p).cmd = s.cmd := rfl
@[simp] theorem State.report_info (s : State) (p : ProblemCode) :
    (s.report p).info = s.info := rfl
@[simp] theorem State.report_arg0 (s : State) (p : ProblemCode) :
    (s.report p).arg0 = s.arg0 := rfl
@[simp] theorem State.report_arg1 (s : State) (p : ProblemCode) :
    (s.report p).arg1 = s.arg1 := rfl
@[simp] theorem State.report_arg2 (s : State) (p : ProblemCode) :
    (s.report p).arg2 = s.arg2 := rfl
@[simp] theorem State.report_arg3 (s : State) (p : ProblemCode) :
    (s.report p).arg3 = s.arg3 := rfl
@[simp] theorem State.report_res0 (s : State) (p : ProblemCode) :
    (s.report p).res0 = s.res0 := rfl
@[simp] theorem State.report_res1 (s : State) (p : ProblemCode) :
    (s.report p).res1 = s.res1 := rfl
@[simp] theorem State.report_res2 (s : State) (p : ProblemCode) :
    (s.report p).res2 = s.res2 := rfl
@[simp] theorem State.report_res3 (s : State) (p : ProblemCode) :
    (s.report p).res3 = s.res3 := rfl
@[simp] theorem State.report_optKind (s : State) (p : ProblemCode) :
    (s.report p).optKind = s.optKind := rfl
@[simp] theorem State.report_optSeen (s : State) (p : ProblemCode) :
    (s.report p).optSeen = s.optSeen := rfl
@[simp] theorem State.report_optDesc (s : State) (p : ProblemCode) :
    (s.report p).optDesc = s.optDesc := rfl
@[simp] theorem State.report_fwValue (s : State) (p : ProblemCode) :
    (s.report p).fwValue = s.fwValue := rfl
@[simp] theorem State.report_fwCfg (s : State) (p : ProblemCode) :
    (s.report p).fwCfg = s.fwCfg := rfl
@[simp] theorem State.report_fwField (s : State) (p : ProblemCode) :
    (s.report p).fwField = s.fwField := rfl
@[simp] theorem State.report_buf (s : State) (p : ProblemCode) :
    (s.report p).buf = s.buf := rfl
@[simp] theorem State.report_bufDraw (s : State) (p : ProblemCode) :
    (s.report p).bufDraw = s.bufDraw := rfl
@[simp] theorem State.report_readDraw (s : State) (p : ProblemCode) :
    (s.report p).readDraw = s.readDraw := rfl
@[simp] theorem State.report_turns (s : State) (p : ProblemCode) :
    (s.report p).turns = s.turns := rfl
@[simp] theorem State.report_busRead (s : State) (p : ProblemCode) :
    (s.report p).busRead = s.busRead := rfl

/-! ### store -/

@[simp] theorem State.store_cfg (s : State) (a : Nat) (bs : List Byte) :
    (s.store a bs).cfg = s.cfg := rfl
@[simp] theorem State.store_ctrl (s : State) (a : Nat) (bs : List Byte) :
    (s.store a bs).ctrl = s.ctrl := rfl
@[simp] theorem State.store_status (s : State) (a : Nat) (bs : List Byte) :
    (s.store a bs).status = s.status := rfl
@[simp] theorem State.store_problemCnt (s : State) (a : Nat) (bs : List Byte) :
    (s.store a bs).problemCnt = s.problemCnt := rfl
@[simp] theorem State.store_cmd (s : State) (a : Nat) (bs : List Byte) :
    (s.store a bs).cmd = s.cmd := rfl
@[simp] theorem State.store_info (s : State) (a : Nat) (bs : List Byte) :
    (s.store a bs).info = s.info := rfl
@[simp] theorem State.store_arg0 (s : State) (a : Nat) (bs : List Byte) :
    (s.store a bs).arg0 = s.arg0 := rfl
@[simp] theorem State.store_arg1 (s : State) (a : Nat) (bs : List Byte) :
    (s.store a bs).arg1 = s.arg1 := rfl
@[simp] theorem State.store_arg2 (s : State) (a : Nat) (bs : List Byte) :
    (s.store a bs).arg2 = s.arg2 := rfl
@[simp] theorem State.store_arg3 (s : State) (a : Nat) (bs : List Byte) :
    (s.store a bs).arg3 = s.arg3 := rfl
@[simp] theorem State.store_res0 (s : State) (a : Nat) (bs : List Byte) :
    (s.store a bs).res0 = s.res0 := rfl
@[simp] theorem State.store_res1 (s : State) (a : Nat) (bs : List Byte) :
    (s.store a bs).res1 = s.res1 := rfl
@[simp] theorem State.store_res2 (s : State) (a : Nat) (bs : List Byte) :
    (s.store a bs).res2 = s.res2 := rfl
@[simp] theorem State.store_res3 (s : State) (a : Nat) (bs : List Byte) :
    (s.store a bs).res3 = s.res3 := rfl
@[simp] theorem State.store_optKind (s : State) (a : Nat) (bs : List Byte) :
    (s.store a bs).optKind = s.optKind := rfl
@[simp] theorem State.store_optSeen (s : State) (a : Nat) (bs : List Byte) :
    (s.store a bs).optSeen = s.optSeen := rfl
@[simp] theorem State.store_optDesc (s : State) (a : Nat) (bs : List Byte) :
    (s.store a bs).optDesc = s.optDesc := rfl
@[simp] theorem State.store_fwValue (s : State) (a : Nat) (bs : List Byte) :
    (s.store a bs).fwValue = s.fwValue := rfl
@[simp] theorem State.store_fwCfg (s : State) (a : Nat) (bs : List Byte) :
    (s.store a bs).fwCfg = s.fwCfg := rfl
@[simp] theorem State.store_fwField (s : State) (a : Nat) (bs : List Byte) :
    (s.store a bs).fwField = s.fwField := rfl
@[simp] theorem State.store_buf (s : State) (a : Nat) (bs : List Byte) :
    (s.store a bs).buf = Memory.putAll s.buf a bs := rfl
@[simp] theorem State.store_bufDraw (s : State) (a : Nat) (bs : List Byte) :
    (s.store a bs).bufDraw = s.bufDraw := rfl
@[simp] theorem State.store_readDraw (s : State) (a : Nat) (bs : List Byte) :
    (s.store a bs).readDraw = s.readDraw := rfl
@[simp] theorem State.store_turns (s : State) (a : Nat) (bs : List Byte) :
    (s.store a bs).turns = s.turns := rfl
@[simp] theorem State.store_busRead (s : State) (a : Nat) (bs : List Byte) :
    (s.store a bs).busRead = s.busRead := rfl

/-! ### results -/

@[simp] theorem State.results_cfg (s : State) (r0 r1 r2 r3 : Nat) :
    (s.results r0 r1 r2 r3).cfg = s.cfg := rfl
@[simp] theorem State.results_ctrl (s : State) (r0 r1 r2 r3 : Nat) :
    (s.results r0 r1 r2 r3).ctrl = s.ctrl := rfl
@[simp] theorem State.results_status (s : State) (r0 r1 r2 r3 : Nat) :
    (s.results r0 r1 r2 r3).status = s.status := rfl
@[simp] theorem State.results_problemCnt (s : State) (r0 r1 r2 r3 : Nat) :
    (s.results r0 r1 r2 r3).problemCnt = s.problemCnt := rfl
@[simp] theorem State.results_cmd (s : State) (r0 r1 r2 r3 : Nat) :
    (s.results r0 r1 r2 r3).cmd = s.cmd := rfl
@[simp] theorem State.results_info (s : State) (r0 r1 r2 r3 : Nat) :
    (s.results r0 r1 r2 r3).info = s.info := rfl
@[simp] theorem State.results_arg0 (s : State) (r0 r1 r2 r3 : Nat) :
    (s.results r0 r1 r2 r3).arg0 = s.arg0 := rfl
@[simp] theorem State.results_arg1 (s : State) (r0 r1 r2 r3 : Nat) :
    (s.results r0 r1 r2 r3).arg1 = s.arg1 := rfl
@[simp] theorem State.results_arg2 (s : State) (r0 r1 r2 r3 : Nat) :
    (s.results r0 r1 r2 r3).arg2 = s.arg2 := rfl
@[simp] theorem State.results_arg3 (s : State) (r0 r1 r2 r3 : Nat) :
    (s.results r0 r1 r2 r3).arg3 = s.arg3 := rfl
@[simp] theorem State.results_res0 (s : State) (r0 r1 r2 r3 : Nat) :
    (s.results r0 r1 r2 r3).res0 = BitVec.ofNat 64 r0 := rfl
@[simp] theorem State.results_res1 (s : State) (r0 r1 r2 r3 : Nat) :
    (s.results r0 r1 r2 r3).res1 = BitVec.ofNat 64 r1 := rfl
@[simp] theorem State.results_res2 (s : State) (r0 r1 r2 r3 : Nat) :
    (s.results r0 r1 r2 r3).res2 = BitVec.ofNat 64 r2 := rfl
@[simp] theorem State.results_res3 (s : State) (r0 r1 r2 r3 : Nat) :
    (s.results r0 r1 r2 r3).res3 = BitVec.ofNat 64 r3 := rfl
@[simp] theorem State.results_optKind (s : State) (r0 r1 r2 r3 : Nat) :
    (s.results r0 r1 r2 r3).optKind = s.optKind := rfl
@[simp] theorem State.results_optSeen (s : State) (r0 r1 r2 r3 : Nat) :
    (s.results r0 r1 r2 r3).optSeen = s.optSeen := rfl
@[simp] theorem State.results_optDesc (s : State) (r0 r1 r2 r3 : Nat) :
    (s.results r0 r1 r2 r3).optDesc = s.optDesc := rfl
@[simp] theorem State.results_fwValue (s : State) (r0 r1 r2 r3 : Nat) :
    (s.results r0 r1 r2 r3).fwValue = s.fwValue := rfl
@[simp] theorem State.results_fwCfg (s : State) (r0 r1 r2 r3 : Nat) :
    (s.results r0 r1 r2 r3).fwCfg = s.fwCfg := rfl
@[simp] theorem State.results_fwField (s : State) (r0 r1 r2 r3 : Nat) :
    (s.results r0 r1 r2 r3).fwField = s.fwField := rfl
@[simp] theorem State.results_buf (s : State) (r0 r1 r2 r3 : Nat) :
    (s.results r0 r1 r2 r3).buf = s.buf := rfl
@[simp] theorem State.results_bufDraw (s : State) (r0 r1 r2 r3 : Nat) :
    (s.results r0 r1 r2 r3).bufDraw = s.bufDraw := rfl
@[simp] theorem State.results_readDraw (s : State) (r0 r1 r2 r3 : Nat) :
    (s.results r0 r1 r2 r3).readDraw = s.readDraw := rfl
@[simp] theorem State.results_turns (s : State) (r0 r1 r2 r3 : Nat) :
    (s.results r0 r1 r2 r3).turns = s.turns := rfl
@[simp] theorem State.results_busRead (s : State) (r0 r1 r2 r3 : Nat) :
    (s.results r0 r1 r2 r3).busRead = s.busRead := rfl

/-! ### known -/

@[simp] theorem State.known_cfg (s : State) (i : Nat) (d : OptDesc) :
    (s.known i d).cfg = s.cfg := rfl
@[simp] theorem State.known_ctrl (s : State) (i : Nat) (d : OptDesc) :
    (s.known i d).ctrl = s.ctrl := rfl
@[simp] theorem State.known_status (s : State) (i : Nat) (d : OptDesc) :
    (s.known i d).status = s.status := rfl
@[simp] theorem State.known_problemCnt (s : State) (i : Nat) (d : OptDesc) :
    (s.known i d).problemCnt = s.problemCnt := rfl
@[simp] theorem State.known_cmd (s : State) (i : Nat) (d : OptDesc) :
    (s.known i d).cmd = s.cmd := rfl
@[simp] theorem State.known_info (s : State) (i : Nat) (d : OptDesc) :
    (s.known i d).info = { s.info with known := true, didx := BitVec.ofNat 5 i, type := d.type } := rfl
@[simp] theorem State.known_arg0 (s : State) (i : Nat) (d : OptDesc) :
    (s.known i d).arg0 = s.arg0 := rfl
@[simp] theorem State.known_arg1 (s : State) (i : Nat) (d : OptDesc) :
    (s.known i d).arg1 = s.arg1 := rfl
@[simp] theorem State.known_arg2 (s : State) (i : Nat) (d : OptDesc) :
    (s.known i d).arg2 = s.arg2 := rfl
@[simp] theorem State.known_arg3 (s : State) (i : Nat) (d : OptDesc) :
    (s.known i d).arg3 = s.arg3 := rfl
@[simp] theorem State.known_res0 (s : State) (i : Nat) (d : OptDesc) :
    (s.known i d).res0 = s.res0 := rfl
@[simp] theorem State.known_res1 (s : State) (i : Nat) (d : OptDesc) :
    (s.known i d).res1 = s.res1 := rfl
@[simp] theorem State.known_res2 (s : State) (i : Nat) (d : OptDesc) :
    (s.known i d).res2 = s.res2 := rfl
@[simp] theorem State.known_res3 (s : State) (i : Nat) (d : OptDesc) :
    (s.known i d).res3 = s.res3 := rfl
@[simp] theorem State.known_optKind (s : State) (i : Nat) (d : OptDesc) :
    (s.known i d).optKind = s.optKind := rfl
@[simp] theorem State.known_optSeen (s : State) (i : Nat) (d : OptDesc) :
    (s.known i d).optSeen = s.optSeen := rfl
@[simp] theorem State.known_optDesc (s : State) (i : Nat) (d : OptDesc) :
    (s.known i d).optDesc = s.optDesc := rfl
@[simp] theorem State.known_fwValue (s : State) (i : Nat) (d : OptDesc) :
    (s.known i d).fwValue = s.fwValue := rfl
@[simp] theorem State.known_fwCfg (s : State) (i : Nat) (d : OptDesc) :
    (s.known i d).fwCfg = s.fwCfg := rfl
@[simp] theorem State.known_fwField (s : State) (i : Nat) (d : OptDesc) :
    (s.known i d).fwField = s.fwField := rfl
@[simp] theorem State.known_buf (s : State) (i : Nat) (d : OptDesc) :
    (s.known i d).buf = s.buf := rfl
@[simp] theorem State.known_bufDraw (s : State) (i : Nat) (d : OptDesc) :
    (s.known i d).bufDraw = s.bufDraw := rfl
@[simp] theorem State.known_readDraw (s : State) (i : Nat) (d : OptDesc) :
    (s.known i d).readDraw = s.readDraw := rfl
@[simp] theorem State.known_turns (s : State) (i : Nat) (d : OptDesc) :
    (s.known i d).turns = s.turns := rfl
@[simp] theorem State.known_busRead (s : State) (i : Nat) (d : OptDesc) :
    (s.known i d).busRead = s.busRead := rfl

/-! ### markSeen -/

@[simp] theorem State.markSeen_cfg (s : State) (i : Nat) :
    (s.markSeen i).cfg = s.cfg := rfl
@[simp] theorem State.markSeen_ctrl (s : State) (i : Nat) :
    (s.markSeen i).ctrl = s.ctrl := rfl
@[simp] theorem State.markSeen_status (s : State) (i : Nat) :
    (s.markSeen i).status = s.status := rfl
@[simp] theorem State.markSeen_problemCnt (s : State) (i : Nat) :
    (s.markSeen i).problemCnt = s.problemCnt := rfl
@[simp] theorem State.markSeen_cmd (s : State) (i : Nat) :
    (s.markSeen i).cmd = s.cmd := rfl
@[simp] theorem State.markSeen_info (s : State) (i : Nat) :
    (s.markSeen i).info = s.info := rfl
@[simp] theorem State.markSeen_arg0 (s : State) (i : Nat) :
    (s.markSeen i).arg0 = s.arg0 := rfl
@[simp] theorem State.markSeen_arg1 (s : State) (i : Nat) :
    (s.markSeen i).arg1 = s.arg1 := rfl
@[simp] theorem State.markSeen_arg2 (s : State) (i : Nat) :
    (s.markSeen i).arg2 = s.arg2 := rfl
@[simp] theorem State.markSeen_arg3 (s : State) (i : Nat) :
    (s.markSeen i).arg3 = s.arg3 := rfl
@[simp] theorem State.markSeen_res0 (s : State) (i : Nat) :
    (s.markSeen i).res0 = s.res0 := rfl
@[simp] theorem State.markSeen_res1 (s : State) (i : Nat) :
    (s.markSeen i).res1 = s.res1 := rfl
@[simp] theorem State.markSeen_res2 (s : State) (i : Nat) :
    (s.markSeen i).res2 = s.res2 := rfl
@[simp] theorem State.markSeen_res3 (s : State) (i : Nat) :
    (s.markSeen i).res3 = s.res3 := rfl
@[simp] theorem State.markSeen_optKind (s : State) (i : Nat) :
    (s.markSeen i).optKind = s.optKind := rfl
@[simp] theorem State.markSeen_optSeen (s : State) (i : Nat) :
    (s.markSeen i).optSeen = s.optSeen ||| (1#32 <<< i) := rfl
@[simp] theorem State.markSeen_optDesc (s : State) (i : Nat) :
    (s.markSeen i).optDesc = s.optDesc := rfl
@[simp] theorem State.markSeen_fwValue (s : State) (i : Nat) :
    (s.markSeen i).fwValue = s.fwValue := rfl
@[simp] theorem State.markSeen_fwCfg (s : State) (i : Nat) :
    (s.markSeen i).fwCfg = s.fwCfg := rfl
@[simp] theorem State.markSeen_fwField (s : State) (i : Nat) :
    (s.markSeen i).fwField = s.fwField := rfl
@[simp] theorem State.markSeen_buf (s : State) (i : Nat) :
    (s.markSeen i).buf = s.buf := rfl
@[simp] theorem State.markSeen_bufDraw (s : State) (i : Nat) :
    (s.markSeen i).bufDraw = s.bufDraw := rfl
@[simp] theorem State.markSeen_readDraw (s : State) (i : Nat) :
    (s.markSeen i).readDraw = s.readDraw := rfl
@[simp] theorem State.markSeen_turns (s : State) (i : Nat) :
    (s.markSeen i).turns = s.turns := rfl
@[simp] theorem State.markSeen_busRead (s : State) (i : Nat) :
    (s.markSeen i).busRead = s.busRead := rfl

/-! ### openSection -/

@[simp] theorem State.openSection_cfg (s : State) (o : ByteOrder) :
    (s.openSection o).cfg = s.cfg := rfl
@[simp] theorem State.openSection_ctrl (s : State) (o : ByteOrder) :
    (s.openSection o).ctrl = { s.ctrl with bo := o, bov := true } := rfl
@[simp] theorem State.openSection_status (s : State) (o : ByteOrder) :
    (s.openSection o).status = s.status := rfl
@[simp] theorem State.openSection_problemCnt (s : State) (o : ByteOrder) :
    (s.openSection o).problemCnt = s.problemCnt := rfl
@[simp] theorem State.openSection_cmd (s : State) (o : ByteOrder) :
    (s.openSection o).cmd = s.cmd := rfl
@[simp] theorem State.openSection_info (s : State) (o : ByteOrder) :
    (s.openSection o).info = { s.info with shb := true, detbo := o } := rfl
@[simp] theorem State.openSection_arg0 (s : State) (o : ByteOrder) :
    (s.openSection o).arg0 = s.arg0 := rfl
@[simp] theorem State.openSection_arg1 (s : State) (o : ByteOrder) :
    (s.openSection o).arg1 = s.arg1 := rfl
@[simp] theorem State.openSection_arg2 (s : State) (o : ByteOrder) :
    (s.openSection o).arg2 = s.arg2 := rfl
@[simp] theorem State.openSection_arg3 (s : State) (o : ByteOrder) :
    (s.openSection o).arg3 = s.arg3 := rfl
@[simp] theorem State.openSection_res0 (s : State) (o : ByteOrder) :
    (s.openSection o).res0 = s.res0 := rfl
@[simp] theorem State.openSection_res1 (s : State) (o : ByteOrder) :
    (s.openSection o).res1 = s.res1 := rfl
@[simp] theorem State.openSection_res2 (s : State) (o : ByteOrder) :
    (s.openSection o).res2 = s.res2 := rfl
@[simp] theorem State.openSection_res3 (s : State) (o : ByteOrder) :
    (s.openSection o).res3 = s.res3 := rfl
@[simp] theorem State.openSection_optKind (s : State) (o : ByteOrder) :
    (s.openSection o).optKind = s.optKind := rfl
@[simp] theorem State.openSection_optSeen (s : State) (o : ByteOrder) :
    (s.openSection o).optSeen = s.optSeen := rfl
@[simp] theorem State.openSection_optDesc (s : State) (o : ByteOrder) :
    (s.openSection o).optDesc = s.optDesc := rfl
@[simp] theorem State.openSection_fwValue (s : State) (o : ByteOrder) :
    (s.openSection o).fwValue = s.fwValue := rfl
@[simp] theorem State.openSection_fwCfg (s : State) (o : ByteOrder) :
    (s.openSection o).fwCfg = s.fwCfg := rfl
@[simp] theorem State.openSection_fwField (s : State) (o : ByteOrder) :
    (s.openSection o).fwField = s.fwField := rfl
@[simp] theorem State.openSection_buf (s : State) (o : ByteOrder) :
    (s.openSection o).buf = s.buf := rfl
@[simp] theorem State.openSection_bufDraw (s : State) (o : ByteOrder) :
    (s.openSection o).bufDraw = s.bufDraw := rfl
@[simp] theorem State.openSection_readDraw (s : State) (o : ByteOrder) :
    (s.openSection o).readDraw = s.readDraw := rfl
@[simp] theorem State.openSection_turns (s : State) (o : ByteOrder) :
    (s.openSection o).turns = s.turns := rfl
@[simp] theorem State.openSection_busRead (s : State) (o : ByteOrder) :
    (s.openSection o).busRead = s.busRead := rfl

/-! ### withArgs -/

@[simp] theorem State.withArgs_cfg (s : State) (a0 a1 a2 a3 : Nat) :
    (s.withArgs a0 a1 a2 a3).cfg = s.cfg := rfl
@[simp] theorem State.withArgs_ctrl (s : State) (a0 a1 a2 a3 : Nat) :
    (s.withArgs a0 a1 a2 a3).ctrl = s.ctrl := rfl
@[simp] theorem State.withArgs_status (s : State) (a0 a1 a2 a3 : Nat) :
    (s.withArgs a0 a1 a2 a3).status = s.status := rfl
@[simp] theorem State.withArgs_problemCnt (s : State) (a0 a1 a2 a3 : Nat) :
    (s.withArgs a0 a1 a2 a3).problemCnt = s.problemCnt := rfl
@[simp] theorem State.withArgs_cmd (s : State) (a0 a1 a2 a3 : Nat) :
    (s.withArgs a0 a1 a2 a3).cmd = s.cmd := rfl
@[simp] theorem State.withArgs_info (s : State) (a0 a1 a2 a3 : Nat) :
    (s.withArgs a0 a1 a2 a3).info = s.info := rfl
@[simp] theorem State.withArgs_arg0 (s : State) (a0 a1 a2 a3 : Nat) :
    (s.withArgs a0 a1 a2 a3).arg0 = BitVec.ofNat 64 a0 := rfl
@[simp] theorem State.withArgs_arg1 (s : State) (a0 a1 a2 a3 : Nat) :
    (s.withArgs a0 a1 a2 a3).arg1 = BitVec.ofNat 64 a1 := rfl
@[simp] theorem State.withArgs_arg2 (s : State) (a0 a1 a2 a3 : Nat) :
    (s.withArgs a0 a1 a2 a3).arg2 = BitVec.ofNat 64 a2 := rfl
@[simp] theorem State.withArgs_arg3 (s : State) (a0 a1 a2 a3 : Nat) :
    (s.withArgs a0 a1 a2 a3).arg3 = BitVec.ofNat 64 a3 := rfl
@[simp] theorem State.withArgs_res0 (s : State) (a0 a1 a2 a3 : Nat) :
    (s.withArgs a0 a1 a2 a3).res0 = s.res0 := rfl
@[simp] theorem State.withArgs_res1 (s : State) (a0 a1 a2 a3 : Nat) :
    (s.withArgs a0 a1 a2 a3).res1 = s.res1 := rfl
@[simp] theorem State.withArgs_res2 (s : State) (a0 a1 a2 a3 : Nat) :
    (s.withArgs a0 a1 a2 a3).res2 = s.res2 := rfl
@[simp] theorem State.withArgs_res3 (s : State) (a0 a1 a2 a3 : Nat) :
    (s.withArgs a0 a1 a2 a3).res3 = s.res3 := rfl
@[simp] theorem State.withArgs_optKind (s : State) (a0 a1 a2 a3 : Nat) :
    (s.withArgs a0 a1 a2 a3).optKind = s.optKind := rfl
@[simp] theorem State.withArgs_optSeen (s : State) (a0 a1 a2 a3 : Nat) :
    (s.withArgs a0 a1 a2 a3).optSeen = s.optSeen := rfl
@[simp] theorem State.withArgs_optDesc (s : State) (a0 a1 a2 a3 : Nat) :
    (s.withArgs a0 a1 a2 a3).optDesc = s.optDesc := rfl
@[simp] theorem State.withArgs_fwValue (s : State) (a0 a1 a2 a3 : Nat) :
    (s.withArgs a0 a1 a2 a3).fwValue = s.fwValue := rfl
@[simp] theorem State.withArgs_fwCfg (s : State) (a0 a1 a2 a3 : Nat) :
    (s.withArgs a0 a1 a2 a3).fwCfg = s.fwCfg := rfl
@[simp] theorem State.withArgs_fwField (s : State) (a0 a1 a2 a3 : Nat) :
    (s.withArgs a0 a1 a2 a3).fwField = s.fwField := rfl
@[simp] theorem State.withArgs_buf (s : State) (a0 a1 a2 a3 : Nat) :
    (s.withArgs a0 a1 a2 a3).buf = s.buf := rfl
@[simp] theorem State.withArgs_bufDraw (s : State) (a0 a1 a2 a3 : Nat) :
    (s.withArgs a0 a1 a2 a3).bufDraw = s.bufDraw := rfl
@[simp] theorem State.withArgs_readDraw (s : State) (a0 a1 a2 a3 : Nat) :
    (s.withArgs a0 a1 a2 a3).readDraw = s.readDraw := rfl
@[simp] theorem State.withArgs_turns (s : State) (a0 a1 a2 a3 : Nat) :
    (s.withArgs a0 a1 a2 a3).turns = s.turns := rfl
@[simp] theorem State.withArgs_busRead (s : State) (a0 a1 a2 a3 : Nat) :
    (s.withArgs a0 a1 a2 a3).busRead = s.busRead := rfl

/-! ### latch -/

@[simp] theorem State.latch_cfg (s : State) (w : BitVec 32) :
    (s.latch w).cfg = s.cfg := rfl
@[simp] theorem State.latch_ctrl (s : State) (w : BitVec 32) :
    (s.latch w).ctrl = s.ctrl := rfl
@[simp] theorem State.latch_status (s : State) (w : BitVec 32) :
    (s.latch w).status = { s.status with busy := true } := rfl
@[simp] theorem State.latch_problemCnt (s : State) (w : BitVec 32) :
    (s.latch w).problemCnt = s.problemCnt := rfl
@[simp] theorem State.latch_cmd (s : State) (w : BitVec 32) :
    (s.latch w).cmd = w := rfl
@[simp] theorem State.latch_info (s : State) (w : BitVec 32) :
    (s.latch w).info = s.info := rfl
@[simp] theorem State.latch_arg0 (s : State) (w : BitVec 32) :
    (s.latch w).arg0 = s.arg0 := rfl
@[simp] theorem State.latch_arg1 (s : State) (w : BitVec 32) :
    (s.latch w).arg1 = s.arg1 := rfl
@[simp] theorem State.latch_arg2 (s : State) (w : BitVec 32) :
    (s.latch w).arg2 = s.arg2 := rfl
@[simp] theorem State.latch_arg3 (s : State) (w : BitVec 32) :
    (s.latch w).arg3 = s.arg3 := rfl
@[simp] theorem State.latch_res0 (s : State) (w : BitVec 32) :
    (s.latch w).res0 = s.res0 := rfl
@[simp] theorem State.latch_res1 (s : State) (w : BitVec 32) :
    (s.latch w).res1 = s.res1 := rfl
@[simp] theorem State.latch_res2 (s : State) (w : BitVec 32) :
    (s.latch w).res2 = s.res2 := rfl
@[simp] theorem State.latch_res3 (s : State) (w : BitVec 32) :
    (s.latch w).res3 = s.res3 := rfl
@[simp] theorem State.latch_optKind (s : State) (w : BitVec 32) :
    (s.latch w).optKind = s.optKind := rfl
@[simp] theorem State.latch_optSeen (s : State) (w : BitVec 32) :
    (s.latch w).optSeen = s.optSeen := rfl
@[simp] theorem State.latch_optDesc (s : State) (w : BitVec 32) :
    (s.latch w).optDesc = s.optDesc := rfl
@[simp] theorem State.latch_fwValue (s : State) (w : BitVec 32) :
    (s.latch w).fwValue = s.fwValue := rfl
@[simp] theorem State.latch_fwCfg (s : State) (w : BitVec 32) :
    (s.latch w).fwCfg = s.fwCfg := rfl
@[simp] theorem State.latch_fwField (s : State) (w : BitVec 32) :
    (s.latch w).fwField = s.fwField := rfl
@[simp] theorem State.latch_buf (s : State) (w : BitVec 32) :
    (s.latch w).buf = s.buf := rfl
@[simp] theorem State.latch_bufDraw (s : State) (w : BitVec 32) :
    (s.latch w).bufDraw = s.bufDraw := rfl
@[simp] theorem State.latch_readDraw (s : State) (w : BitVec 32) :
    (s.latch w).readDraw = s.readDraw := rfl
@[simp] theorem State.latch_turns (s : State) (w : BitVec 32) :
    (s.latch w).turns = s.turns := rfl
@[simp] theorem State.latch_busRead (s : State) (w : BitVec 32) :
    (s.latch w).busRead = s.busRead := rfl

/-! ### dropWrite -/

@[simp] theorem State.dropWrite_cfg (s : State) :
    (s.dropWrite).cfg = s.cfg := rfl
@[simp] theorem State.dropWrite_ctrl (s : State) :
    (s.dropWrite).ctrl = s.ctrl := rfl
@[simp] theorem State.dropWrite_status (s : State) :
    (s.dropWrite).status = { s.status with ovr := true } := rfl
@[simp] theorem State.dropWrite_problemCnt (s : State) :
    (s.dropWrite).problemCnt = s.problemCnt := rfl
@[simp] theorem State.dropWrite_cmd (s : State) :
    (s.dropWrite).cmd = s.cmd := rfl
@[simp] theorem State.dropWrite_info (s : State) :
    (s.dropWrite).info = s.info := rfl
@[simp] theorem State.dropWrite_arg0 (s : State) :
    (s.dropWrite).arg0 = s.arg0 := rfl
@[simp] theorem State.dropWrite_arg1 (s : State) :
    (s.dropWrite).arg1 = s.arg1 := rfl
@[simp] theorem State.dropWrite_arg2 (s : State) :
    (s.dropWrite).arg2 = s.arg2 := rfl
@[simp] theorem State.dropWrite_arg3 (s : State) :
    (s.dropWrite).arg3 = s.arg3 := rfl
@[simp] theorem State.dropWrite_res0 (s : State) :
    (s.dropWrite).res0 = s.res0 := rfl
@[simp] theorem State.dropWrite_res1 (s : State) :
    (s.dropWrite).res1 = s.res1 := rfl
@[simp] theorem State.dropWrite_res2 (s : State) :
    (s.dropWrite).res2 = s.res2 := rfl
@[simp] theorem State.dropWrite_res3 (s : State) :
    (s.dropWrite).res3 = s.res3 := rfl
@[simp] theorem State.dropWrite_optKind (s : State) :
    (s.dropWrite).optKind = s.optKind := rfl
@[simp] theorem State.dropWrite_optSeen (s : State) :
    (s.dropWrite).optSeen = s.optSeen := rfl
@[simp] theorem State.dropWrite_optDesc (s : State) :
    (s.dropWrite).optDesc = s.optDesc := rfl
@[simp] theorem State.dropWrite_fwValue (s : State) :
    (s.dropWrite).fwValue = s.fwValue := rfl
@[simp] theorem State.dropWrite_fwCfg (s : State) :
    (s.dropWrite).fwCfg = s.fwCfg := rfl
@[simp] theorem State.dropWrite_fwField (s : State) :
    (s.dropWrite).fwField = s.fwField := rfl
@[simp] theorem State.dropWrite_buf (s : State) :
    (s.dropWrite).buf = s.buf := rfl
@[simp] theorem State.dropWrite_bufDraw (s : State) :
    (s.dropWrite).bufDraw = s.bufDraw := rfl
@[simp] theorem State.dropWrite_readDraw (s : State) :
    (s.dropWrite).readDraw = s.readDraw := rfl
@[simp] theorem State.dropWrite_turns (s : State) :
    (s.dropWrite).turns = s.turns := rfl
@[simp] theorem State.dropWrite_busRead (s : State) :
    (s.dropWrite).busRead = s.busRead := rfl

/-! ### deliver -/

@[simp] theorem State.deliver_cfg (s : State) (v : Word) :
    (s.deliver v).cfg = s.cfg := rfl
@[simp] theorem State.deliver_ctrl (s : State) (v : Word) :
    (s.deliver v).ctrl = s.ctrl := rfl
@[simp] theorem State.deliver_status (s : State) (v : Word) :
    (s.deliver v).status = s.status := rfl
@[simp] theorem State.deliver_problemCnt (s : State) (v : Word) :
    (s.deliver v).problemCnt = s.problemCnt := rfl
@[simp] theorem State.deliver_cmd (s : State) (v : Word) :
    (s.deliver v).cmd = s.cmd := rfl
@[simp] theorem State.deliver_info (s : State) (v : Word) :
    (s.deliver v).info = s.info := rfl
@[simp] theorem State.deliver_arg0 (s : State) (v : Word) :
    (s.deliver v).arg0 = s.arg0 := rfl
@[simp] theorem State.deliver_arg1 (s : State) (v : Word) :
    (s.deliver v).arg1 = s.arg1 := rfl
@[simp] theorem State.deliver_arg2 (s : State) (v : Word) :
    (s.deliver v).arg2 = s.arg2 := rfl
@[simp] theorem State.deliver_arg3 (s : State) (v : Word) :
    (s.deliver v).arg3 = s.arg3 := rfl
@[simp] theorem State.deliver_res0 (s : State) (v : Word) :
    (s.deliver v).res0 = s.res0 := rfl
@[simp] theorem State.deliver_res1 (s : State) (v : Word) :
    (s.deliver v).res1 = s.res1 := rfl
@[simp] theorem State.deliver_res2 (s : State) (v : Word) :
    (s.deliver v).res2 = s.res2 := rfl
@[simp] theorem State.deliver_res3 (s : State) (v : Word) :
    (s.deliver v).res3 = s.res3 := rfl
@[simp] theorem State.deliver_optKind (s : State) (v : Word) :
    (s.deliver v).optKind = s.optKind := rfl
@[simp] theorem State.deliver_optSeen (s : State) (v : Word) :
    (s.deliver v).optSeen = s.optSeen := rfl
@[simp] theorem State.deliver_optDesc (s : State) (v : Word) :
    (s.deliver v).optDesc = s.optDesc := rfl
@[simp] theorem State.deliver_fwValue (s : State) (v : Word) :
    (s.deliver v).fwValue = s.fwValue := rfl
@[simp] theorem State.deliver_fwCfg (s : State) (v : Word) :
    (s.deliver v).fwCfg = s.fwCfg := rfl
@[simp] theorem State.deliver_fwField (s : State) (v : Word) :
    (s.deliver v).fwField = s.fwField := rfl
@[simp] theorem State.deliver_buf (s : State) (v : Word) :
    (s.deliver v).buf = s.buf := rfl
@[simp] theorem State.deliver_bufDraw (s : State) (v : Word) :
    (s.deliver v).bufDraw = s.bufDraw := rfl
@[simp] theorem State.deliver_readDraw (s : State) (v : Word) :
    (s.deliver v).readDraw = if s.status.busy then s.readDraw + 1 else s.readDraw := rfl
@[simp] theorem State.deliver_turns (s : State) (v : Word) :
    (s.deliver v).turns = s.turns := rfl
@[simp] theorem State.deliver_busRead (s : State) (v : Word) :
    (s.deliver v).busRead = v := rfl

end Sys2Proof.Machine
end

