-- ==== Sys2Proof/Laws/Memory.lean ====
section
/-! SUPPORT. BUF: read after write, untouched bytes, and that every write keeps the canonical form. -/

namespace Sys2Proof.Machine

theorem Memory.get?_put (m : Memory) (a : Nat) (v : Byte) (x : Nat) :
    Memory.get? (Memory.put m a v) x = if x = a then some v else Memory.get? m x := by
  induction m with
  | nil => simp [Memory.put, Memory.get?]
  | cons p m ih =>
    obtain ⟨b, w⟩ := p
    simp only [Memory.put]
    split
    · simp [Memory.get?]
    · split
      · subst_vars
        simp only [Memory.get?]
        split <;> simp_all
      · simp only [Memory.get?, ih]
        split <;> split <;> simp_all

theorem Memory.mem_put {m : Memory} {a : Nat} {v : Byte} {p : Host.Cell} (h : p ∈ Memory.put m a v) :
    p = (a, v) ∨ p ∈ m := by
  induction m with
  | nil => simpa [Memory.put] using h
  | cons q m ih =>
    obtain ⟨b, w⟩ := q
    simp only [Memory.put] at h
    split at h
    · simpa using h
    · split at h
      · rcases List.mem_cons.1 h with h | h
        · exact .inl h
        · exact .inr (List.mem_cons_of_mem _ h)
      · rcases List.mem_cons.1 h with h | h
        · exact .inr (by simp [h])
        · exact (ih h).imp_right (List.mem_cons_of_mem _)

/-- Writing one byte keeps the canonical form. -/
theorem Memory.wf_put {m : Memory} (h : m.wf) (a : Nat) (v : Byte) : (Memory.put m a v).wf := by
  induction m with
  | nil => simp [Memory.put, Memory.wf]
  | cons q m ih =>
    obtain ⟨b, w⟩ := q
    obtain ⟨hb, hm⟩ := List.pairwise_cons.1 h
    simp only [Memory.put]
    split
    · refine List.pairwise_cons.2 ⟨fun p hp => ?_, h⟩
      rcases List.mem_cons.1 hp with rfl | hp
      · assumption
      · exact Nat.lt_trans ‹a < b› (hb p hp)
    · split
      · subst_vars
        exact List.pairwise_cons.2 ⟨hb, hm⟩
      · refine List.pairwise_cons.2 ⟨fun p hp => ?_, ih hm⟩
        rcases Memory.mem_put hp with rfl | hp
        · show b < a
          omega
        · exact hb p hp

theorem Memory.wf_putAll {m : Memory} (h : m.wf) (a : Nat) (bs : List Byte) : (Memory.putAll m a bs).wf := by
  induction bs generalizing m a with
  | nil => exact h
  | cons b bs ih => exact ih (Memory.wf_put h a b) (a + 1)

/-- Every listed address after consecutive writes was listed before, or is one of those written. -/
theorem Memory.mem_putAll {m : Memory} {a : Nat} {bs : List Byte} {p : Host.Cell} (h : p ∈ Memory.putAll m a bs) :
    (a ≤ p.1 ∧ p.1 < a + bs.length) ∨ p ∈ m := by
  induction bs generalizing m a with
  | nil => exact .inr h
  | cons b bs ih =>
    rcases ih h with h | h
    · left; simp only [List.length_cons]; omega
    · rcases Memory.mem_put h with rfl | h
      · left; simp
      · exact .inr h

theorem Memory.get?_putAll (m : Memory) (a : Nat) (bs : List Byte) (x : Nat) :
    Memory.get? (Memory.putAll m a bs) x =
      if a ≤ x ∧ x < a + bs.length then bs[x - a]? else Memory.get? m x := by
  induction bs generalizing m a with
  | nil =>
    have : ¬(a ≤ x ∧ x < a + ([] : List Byte).length) := by simp
    rw [if_neg this]; rfl
  | cons b bs ih =>
    simp only [Memory.putAll, ih, Memory.get?_put, List.length_cons]
    by_cases h1 : x = a
    · subst h1; simp
    · by_cases h2 : a + 1 ≤ x ∧ x < a + 1 + bs.length
      · have h3 : a ≤ x ∧ x < a + (bs.length + 1) := by omega
        rw [if_pos h2, if_pos h3]
        have : x - a = (x - (a + 1)) + 1 := by omega
        rw [this, List.getElem?_cons_succ]
      · have h3 : ¬(a ≤ x ∧ x < a + (bs.length + 1)) := by omega
        rw [if_neg h2, if_neg h3, if_neg h1]

/-- A byte after a write: the one written there, or the one that was there. -/
theorem State.byteAt_store (s : State) (a : Nat) (bs : List Byte) (x : Nat) :
    (s.store a bs).byteAt x =
      if a ≤ x ∧ x < a + bs.length then (bs[x - a]?).getD 0 else s.byteAt x := by
  unfold State.byteAt
  simp only [State.store_buf, State.store_bufDraw, Memory.get?_putAll]
  split
  · have : x - a < bs.length := by omega
    simp [this]
  · rfl

theorem State.byteAt_store_outside (s : State) {a : Nat} {bs : List Byte} {x : Nat} (h : x < a ∨ a + bs.length ≤ x) :
    (s.store a bs).byteAt x = s.byteAt x := by
  rw [State.byteAt_store, if_neg (by omega)]

@[simp] theorem State.load_length (s : State) (a n : Nat) : (s.load a n).length = n := by simp [State.load]

theorem State.load_getElem? (s : State) (a n k : Nat) (h : k < n) : (s.load a n)[k]? = some (s.byteAt (a + k)) := by
  simp [State.load, h]

/-- Two states that agree on the bytes read give the same bytes. -/
theorem State.load_congr {s t : State} {a n : Nat} (h : ∀ x, a ≤ x → x < a + n → s.byteAt x = t.byteAt x) :
    s.load a n = t.load a n := by
  unfold State.load
  refine List.map_congr_left fun k hk => h _ (by omega) ?_
  have := List.mem_range.1 hk
  omega

/-- Bytes just written read back. -/
theorem State.load_store_same (s : State) (a : Nat) (bs : List Byte) : (s.store a bs).load a bs.length = bs := by
  refine List.ext_getElem? fun k => ?_
  by_cases hk : k < bs.length
  · rw [State.load_getElem? _ _ _ _ hk, State.byteAt_store, if_pos (by omega)]
    simp [hk]
  · rw [List.getElem?_eq_none (by simp; omega), List.getElem?_eq_none (by omega)]

/-- Bytes outside a write read as before. -/
theorem State.load_store_outside (s : State) {a : Nat} {bs : List Byte} {x n : Nat} (h : x + n ≤ a ∨ a + bs.length ≤ x) :
    (s.store a bs).load x n = s.load x n :=
  State.load_congr fun y h1 h2 => State.byteAt_store_outside s (by omega)

/-- A read depends on BUF and its draw alone. -/
theorem State.byteAt_congr {s t : State} (hb : s.buf = t.buf) (hd : s.bufDraw = t.bufDraw) (a : Nat) :
    s.byteAt a = t.byteAt a := by
  unfold State.byteAt; rw [hb, hd]

theorem State.load_congr_buf {s t : State} (hb : s.buf = t.buf) (hd : s.bufDraw = t.bufDraw) (a n : Nat) :
    s.load a n = t.load a n :=
  State.load_congr fun x _ _ => State.byteAt_congr hb hd x

end Sys2Proof.Machine
end

