-- ==== Sys2Proof/Laws/Codec.lean ====
section
/-! SUPPORT. Lengths, bounds and inverses of the byte codec, and the length arithmetic. -/

namespace Sys2Proof.Machine

theorem ceil4_le (x : Nat) : x ≤ ceil4 x := by unfold ceil4; omega
theorem ceil4_lt (x : Nat) : ceil4 x < x + 4 := by unfold ceil4; omega
theorem ceil4_mod (x : Nat) : ceil4 x % 4 = 0 := by unfold ceil4; omega
theorem add_pad4 (x : Nat) : x + pad4 x = ceil4 x := by have := ceil4_le x; unfold pad4; omega
theorem pad4_lt (x : Nat) : pad4 x < 4 := by have := ceil4_lt x; unfold pad4; omega
theorem ceil4_of_mod (x : Nat) (h : x % 4 = 0) : ceil4 x = x := by unfold ceil4; omega

@[simp] theorem toBytesLE_length (n v : Nat) : (toBytesLE n v).length = n := by
  induction n generalizing v with
  | zero => rfl
  | succ n ih => simp [toBytesLE, ih]

@[simp] theorem toBytes_length (v n : Nat) (ord : ByteOrder) : (toBytes v n ord).length = n := by
  cases ord <;> simp [toBytes]

@[simp] theorem zeros_length (n : Nat) : (zeros n).length = n := by simp [zeros]

theorem fromBytesLE_toBytesLE (n v : Nat) : fromBytesLE (toBytesLE n v) = v % 256 ^ n := by
  induction n generalizing v with
  | zero => simp [toBytesLE, fromBytesLE, Nat.mod_one]
  | succ n ih =>
    have h := Nat.mod_mul (a := 256) (b := 256 ^ n) (x := v)
    have e : 256 ^ (n + 1) = 256 * 256 ^ n := by ring
    simp only [toBytesLE, fromBytesLE, ih, BitVec.toNat_ofNat]
    rw [e, h]

/-- ToBytes is a right inverse of FromBytes (R17: "FromBytes(bs, ord) = v mod 256^n"). -/
theorem fromBytes_toBytes (v n : Nat) (ord : ByteOrder) : fromBytes ord (toBytes v n ord) = v % 256 ^ n := by
  cases ord <;> simp [fromBytes, toBytes, fromBytesLE_toBytesLE]

theorem fromBytesLE_lt (bs : List Byte) : fromBytesLE bs < 256 ^ bs.length := by
  induction bs with
  | nil => simp [fromBytesLE]
  | cons b bs ih =>
    have := b.isLt
    simp only [fromBytesLE, List.length_cons, pow_succ]
    omega

theorem fromBytes_lt (ord : ByteOrder) (bs : List Byte) : fromBytes ord bs < 256 ^ bs.length := by
  cases ord
  · exact fromBytesLE_lt bs
  · simpa [fromBytes] using fromBytesLE_lt bs.reverse

theorem toBytesLE_getElem? (n v k : Nat) (h : k < n) : (toBytesLE n v)[k]? = some (BitVec.ofNat 8 (v / 256 ^ k)) := by
  induction n generalizing v k with
  | zero => omega
  | succ n ih =>
    cases k with
    | zero => simp [toBytesLE]
    | succ k =>
      rw [toBytesLE, List.getElem?_cons_succ, ih _ _ (by omega), Nat.div_div_eq_div_mul, pow_succ,
        Nat.mul_comm 256]

/-- Byte k that ToBytes spells. -/
theorem toBytes_getElem? (v n : Nat) (ord : ByteOrder) (k : Nat) (h : k < n) :
    (toBytes v n ord)[k]? = some (BitVec.ofNat 8 (v / 256 ^ (if ord = .le then k else n - 1 - k))) := by
  cases ord
  · simp [toBytes, toBytesLE_getElem? _ _ _ h]
  · simp only [toBytes]
    rw [List.getElem?_reverse (by simpa using h), toBytesLE_length, toBytesLE_getElem? _ _ _ (by omega)]
    simp

@[simp] theorem zeros_getD (n k : Nat) : ((zeros n)[k]?).getD 0 = 0 := by
  by_cases h : k < n <;> simp [zeros, h]

/-- An integer written in an order reads back in that order, reduced to its width. -/
theorem State.loadInt_store (s : State) (ord : ByteOrder) (a v n : Nat) :
    (s.store a (toBytes v n ord)).loadInt ord a n = v % 256 ^ n := by
  have h := State.load_store_same s a (toBytes v n ord)
  rw [toBytes_length] at h
  rw [State.loadInt, h, fromBytes_toBytes]

theorem State.loadInt_lt (s : State) (ord : ByteOrder) (a n : Nat) : s.loadInt ord a n < 256 ^ n := by
  have := fromBytes_lt ord (s.load a n)
  simpa [State.loadInt] using this

end Sys2Proof.Machine
end

