-- ==== Sys2Proof/Laws/Commands.lean ====
section
/-! SUPPORT. What each command's pseudocode can end with: one inversion lemma per body, which later proofs cite instead of unfolding
it. A commit names every effect; a raise names the error codes and the reported problem. -/

namespace Sys2Proof.Machine

/-- Every command answers a next state: the completion of its body's end. -/
@[simp] theorem runCommand_eq (body : State → CmdEnd) (s : State) :
    runCommand body s = .next (complete s.start (body s.start)) := rfl

@[simp] theorem complete_commit (s t : State) : complete s (.commit t) = t.finish .ok := rfl
@[simp] theorem complete_raise_none (s : State) (e : ErrorCode) : complete s (.raise e none) = s.finish e := rfl
@[simp] theorem complete_raise_some (s : State) (e : ErrorCode) (p : ProblemCode) :
    complete s (.raise e (some p)) = (s.report p).finish e := rfl

/-- Starting a command changes no byte of BUF. -/
@[simp] theorem State.byteAt_start (s : State) (a : Nat) : s.start.byteAt a = s.byteAt a := rfl
@[simp] theorem State.load_start (s : State) (a n : Nat) : s.start.load a n = s.load a n := rfl
@[simp] theorem State.loadInt_start (s : State) (o : ByteOrder) (a n : Nat) : s.start.loadInt o a n = s.loadInt o a n := rfl
@[simp] theorem State.cursor_start (s : State) : s.start.cursor = s.cursor := rfl
@[simp] theorem State.limit_start (s : State) : s.start.limit = s.limit := rfl
@[simp] theorem State.value_start (s : State) : s.start.value = s.value := rfl
@[simp] theorem State.len_start (s : State) : s.start.len = s.len := rfl
@[simp] theorem State.nf_start (s : State) : s.start.nf = s.nf := rfl
@[simp] theorem State.field_start (s : State) (j : Nat) : s.start.field j = s.field j := rfl
@[simp] theorem State.offsetOf_start (s : State) (j : Nat) : s.start.offsetOf j = s.offsetOf j := rfl
@[simp] theorem State.schema_start (s : State) : s.start.schema = s.schema := rfl
@[simp] theorem State.lookup_start (s : State) (code : Nat) : s.start.lookup code = s.lookup code := rfl
@[simp] theorem State.codeAt_start (s : State) (c : Nat) : s.start.codeAt c = s.codeAt c := rfl
@[simp] theorem State.lenAt_start (s : State) (c : Nat) : s.start.lenAt c = s.lenAt c := rfl
@[simp] theorem State.byteAt_finish (s : State) (e : ErrorCode) (a : Nat) : (s.finish e).byteAt a = s.byteAt a := rfl
@[simp] theorem State.byteAt_report (s : State) (p : ProblemCode) (a : Nat) : (s.report p).byteAt a = s.byteAt a := rfl
@[simp] theorem State.byteAt_results (s : State) (r0 r1 r2 r3 a : Nat) : (s.results r0 r1 r2 r3).byteAt a = s.byteAt a := rfl
@[simp] theorem State.byteAt_known (s : State) (i : Nat) (d : OptDesc) (a : Nat) : (s.known i d).byteAt a = s.byteAt a := rfl
@[simp] theorem State.byteAt_markSeen (s : State) (i a : Nat) : (s.markSeen i).byteAt a = s.byteAt a := rfl
@[simp] theorem State.byteAt_openSection (s : State) (o : ByteOrder) (a : Nat) : (s.openSection o).byteAt a = s.byteAt a := rfl

/-- What INT_DEC's pseudocode can end with (R102). -/
theorem intDecBody_cases (width : IntWidth) (signed : Bool) (s : State) :
    (s.ctrl.bov = false ∧ intDecBody width signed s = .raise .noSection none) ∨
    (s.ctrl.bov = true ∧ (s.CursorBad ∨ s.cursor + width.bytes > s.limit) ∧
      intDecBody width signed s = .raise .bounds none) ∨
    (s.ctrl.bov = true ∧ s.limit ≤ s.cfg.bufBytes ∧ s.cursor + width.bytes ≤ s.limit ∧
      intDecBody width signed s = .commit { s with
        res0 := decodedValue width signed (s.loadInt s.ctrl.bo s.cursor width.bytes)
        res3 := BitVec.ofNat 64 (s.cursor + width.bytes) }) := by
  unfold intDecBody
  split
  · exact .inl ⟨‹_›, rfl⟩
  · have hb : s.ctrl.bov = true := by simpa using ‹¬s.ctrl.bov = false›
    split
    · exact .inr (.inl ⟨hb, .inl ‹_›, rfl⟩)
    · split
      · exact .inr (.inl ⟨hb, .inr ‹_›, rfl⟩)
      · exact .inr (.inr ⟨hb, by omega, by omega, rfl⟩)

/-- What INT_ENC's pseudocode can end with (R103). -/
theorem intEncBody_cases (width : IntWidth) (s : State) :
    (s.ctrl.bov = false ∧ intEncBody width s = .raise .noSection none) ∨
    (s.ctrl.bov = true ∧ (s.CursorBad ∨ s.cursor + width.bytes > s.limit) ∧ intEncBody width s = .raise .bounds none) ∨
    (s.ctrl.bov = true ∧ s.limit ≤ s.cfg.bufBytes ∧ s.cursor + width.bytes ≤ s.limit ∧
      intEncBody width s = .commit { s.store s.cursor (toBytes (truncated width s) width.bytes s.ctrl.bo) with
        res0 := BitVec.ofNat 64 (truncated width s)
        res3 := BitVec.ofNat 64 (s.cursor + width.bytes) }) := by
  unfold intEncBody
  split
  · exact .inl ⟨‹_›, rfl⟩
  · have hb : s.ctrl.bov = true := by simpa using ‹¬s.ctrl.bov = false›
    split
    · exact .inr (.inl ⟨hb, .inl ‹_›, rfl⟩)
    · split
      · exact .inr (.inl ⟨hb, .inr ‹_›, rfl⟩)
      · exact .inr (.inr ⟨hb, by omega, by omega, rfl⟩)

/-- What FLAG_CONFIG's pseudocode can end with (R121). -/
theorem flagConfigBody_cases (s : State) :
    flagConfigBody s = .raise .usageError none ∨
    (1 ≤ s.fwCfg.w.toNat ∧ s.fwCfg.w.toNat ≤ 64 ∧ s.nf ≤ 16 ∧ (∀ f ∈ s.schema, f.legal = true) ∧
      s.offsetOf s.nf ≤ s.fwCfg.w.toNat ∧
      flagConfigBody s = .commit { s with
        fwField :=
          s.fwField.mapIdx (fun j f => if j < s.nf then { f with offset := BitVec.ofNat 6 (s.offsetOf j) } else f)
        fwCfg := { s.fwCfg with valid := true } }) := by
  unfold flagConfigBody
  split
  · exact .inl rfl
  · split
    · exact .inl rfl
    · split
      · exact .inl rfl
      · have hl : s.schema.all FwField.legal = true := by simpa using ‹¬s.schema.all FwField.legal = false›
        split
        · exact .inl rfl
        · exact .inr ⟨by omega, by omega, by omega, List.all_eq_true.1 hl, by omega, rfl⟩

/-- What FLAG_GET's pseudocode can end with (R122). -/
theorem flagGetBody_cases (j : Nat) (s : State) :
    ((s.fwCfg.valid = false ∨ s.nf ≤ j) ∧ flagGetBody j s = .raise .usageError none) ∨
    (s.fwCfg.valid = true ∧ j < s.nf ∧
      flagGetBody j s = .commit { s with
        res0 := (s.field j).extract s.fwValue
        info := { s.info with invalid := (s.field j).invalid ((s.field j).extract s.fwValue) } }) := by
  unfold flagGetBody
  split
  · exact .inl ⟨.inl ‹_›, rfl⟩
  · have hv : s.fwCfg.valid = true := by simpa using ‹¬s.fwCfg.valid = false›
    split
    · exact .inl ⟨.inr ‹_›, rfl⟩
    · exact .inr ⟨hv, by omega, rfl⟩

/-- What FLAG_SET's pseudocode can end with (R123). -/
theorem flagSetBody_cases (j : Nat) (s : State) :
    ((s.fwCfg.valid = false ∨ s.nf ≤ j) ∧ flagSetBody j s = .raise .usageError none) ∨
    (s.fwCfg.valid = true ∧ j < s.nf ∧
      flagSetBody j s = .commit { s with
        fwValue := (s.field j).insert s.fwValue ((s.field j).coerce s.arg0)
        res0 := (s.field j).insert s.fwValue ((s.field j).coerce s.arg0)
        info := { s.info with invalid := (s.field j).invalid ((s.field j).coerce s.arg0) } }) := by
  unfold flagSetBody
  split
  · exact .inl ⟨.inl ‹_›, rfl⟩
  · have hv : s.fwCfg.valid = true := by simpa using ‹¬s.fwCfg.valid = false›
    split
    · exact .inl ⟨.inr ‹_›, rfl⟩
    · exact .inr ⟨hv, by omega, rfl⟩

/-- The state after the report of a duplicate of entry i, with the DUP bit (R142, R206). -/
def State.reportedDup (s : State) (i : Nat) (d : OptDesc) : State :=
  { (s.known i d).report .dupOption with
    info := { s.info with known := true, didx := BitVec.ofNat 5 i, type := d.type, dup := true } }

/-- What the multiplicity check can return (R142). -/
theorem multiplicity_cases (s : State) (code : Nat) (dir : Direction) :
    (s.lookup code = none ∧ multiplicity (s.lookup code) dir s = .accept s) ∨
    (∃ i d, s.lookup code = some (i, d) ∧ (d.mult = true ∨ s.optSeen.getLsbD i = false) ∧
      multiplicity (s.lookup code) dir s = .accept ((s.known i d).markSeen i)) ∨
    (∃ i d, s.lookup code = some (i, d) ∧ d.mult = false ∧ s.optSeen.getLsbD i = true ∧
      ((s.ctrl.policy = .fail ∧ multiplicity (s.lookup code) dir s = .policyFail) ∨
       (s.ctrl.policy = .fix ∧ dir = .dec ∧ s.ctrl.dupkeep = true ∧
          multiplicity (s.lookup code) dir s =
            .accept { s.reportedDup i d with info := { (s.reportedDup i d).info with supersedes := true } }) ∨
       (s.ctrl.policy = .fix ∧ (dir = .enc ∨ s.ctrl.dupkeep = false) ∧
          multiplicity (s.lookup code) dir s =
            .discard { s.reportedDup i d with info := { (s.reportedDup i d).info with discard := true } }) ∨
       (s.ctrl.policy ≠ .fail ∧ s.ctrl.policy ≠ .fix ∧
          multiplicity (s.lookup code) dir s = .accept (s.reportedDup i d)))) := by
  rcases h : s.lookup code with _ | ⟨i, d⟩
  · exact .inl ⟨rfl, rfl⟩
  · refine .inr ?_
    simp only [multiplicity]
    by_cases hm : d.mult = true
    · exact .inl ⟨i, d, rfl, .inl hm, by rw [if_pos hm]⟩
    · by_cases hs : s.optSeen.getLsbD i = false
      · exact .inl ⟨i, d, rfl, .inr hs, by rw [if_neg hm, if_pos hs]⟩
      · refine .inr ⟨i, d, rfl, by simpa using hm, by simpa using hs, ?_⟩
        rw [if_neg hm, if_neg hs]
        by_cases hf : s.ctrl.policy = .fail
        · exact .inl ⟨hf, by rw [if_pos hf]⟩
        · rw [if_neg hf]
          by_cases hx : s.ctrl.policy = .fix
          · rw [if_pos hx]
            by_cases hd : dir = .dec ∧ s.ctrl.dupkeep = true
            · exact .inr (.inl ⟨hx, hd.1, hd.2, by rw [if_pos hd]; rfl⟩)
            · refine .inr (.inr (.inl ⟨hx, ?_, by rw [if_neg hd]; rfl⟩))
              cases dir
              · exact .inr (by simpa using hd)
              · exact .inl rfl
          · exact .inr (.inr (.inr ⟨hf, hx, by rw [if_neg hx]; rfl⟩))

/-- What the multiplicity check leaves alone: a staged state differs in INFO, OPT_SEEN, PROBLEM_CNT and STATUS only. -/
theorem multiplicity_frame {s t : State} {code : Nat} {dir : Direction}
    (h : multiplicity (s.lookup code) dir s = .accept t ∨ multiplicity (s.lookup code) dir s = .discard t) :
    t = { s with info := t.info, optSeen := t.optSeen, problemCnt := t.problemCnt, status := t.status } := by
  rcases multiplicity_cases s code dir with ⟨_, e⟩ | ⟨i, d, _, _, e⟩ | ⟨i, d, _, _, _, c⟩
  · rw [e] at h; rcases h with h | h <;> cases h; rfl
  · rw [e] at h; rcases h with h | h <;> cases h; rfl
  · rcases c with ⟨_, e⟩ | ⟨_, _, _, e⟩ | ⟨_, _, e⟩ | ⟨_, _, e⟩ <;> rw [e] at h <;> rcases h with h | h <;> cases h <;> rfl

/-- The results of an OPT_DEC that reports a record (R144). -/
def State.recordResults (t s : State) : State :=
  t.results (s.codeAt s.cursor) (s.lenAt s.cursor) (s.cursor + 4) (s.cursor + recordBytes (s.lenAt s.cursor))

/-- What OPT_DEC's pseudocode can end with (R144). -/
theorem optDecBody_cases (s : State) :
    (s.ctrl.bov = false ∧ optDecBody s = .raise .noSection none) ∨
    (s.ctrl.bov = true ∧ s.CursorBad ∧ optDecBody s = .raise .bounds none) ∨
    (s.ctrl.bov = true ∧ s.limit ≤ s.cfg.bufBytes ∧ s.cursor = s.limit ∧
      optDecBody s = .commit { s.results 0 0 s.cursor s.cursor with
        info := { s.info with endMark := true, implicitEnd := true } }) ∨
    (s.ctrl.bov = true ∧ s.limit ≤ s.cfg.bufBytes ∧ s.cursor < s.limit ∧
      (s.limit < s.cursor + 4 ∨
        (¬(s.codeAt s.cursor = 0 ∧ s.lenAt s.cursor = 0) ∧ s.limit < s.cursor + recordBytes (s.lenAt s.cursor))) ∧
      optDecBody s = .raise .lengthMismatch none) ∨
    (s.ctrl.bov = true ∧ s.limit ≤ s.cfg.bufBytes ∧ s.cursor + 4 ≤ s.limit ∧
      s.codeAt s.cursor = 0 ∧ s.lenAt s.cursor = 0 ∧
      optDecBody s = .commit { s.results 0 0 (s.cursor + 4) (s.cursor + 4) with info := { s.info with endMark := true } }) ∨
    (s.ctrl.bov = true ∧ s.limit ≤ s.cfg.bufBytes ∧ s.cursor + 4 ≤ s.limit ∧
      ¬(s.codeAt s.cursor = 0 ∧ s.lenAt s.cursor = 0) ∧ s.cursor + recordBytes (s.lenAt s.cursor) ≤ s.limit ∧
      ((∃ t, (multiplicity (s.lookup (s.codeAt s.cursor)) .dec s = .accept t ∨
          multiplicity (s.lookup (s.codeAt s.cursor)) .dec s = .discard t) ∧ optDecBody s = .commit (t.recordResults s)) ∨
       (multiplicity (s.lookup (s.codeAt s.cursor)) .dec s = .policyFail ∧
          optDecBody s = .raise .policyFail (some .dupOption)))) := by
  by_cases h0 : s.ctrl.bov = false
  · exact .inl ⟨h0, by rw [optDecBody, if_pos h0]⟩
  have hb : s.ctrl.bov = true := by simpa using h0
  refine .inr ?_
  by_cases h1 : s.CursorBad
  · exact .inl ⟨hb, h1, by rw [optDecBody, if_neg h0, if_pos h1]⟩
  refine .inr ?_
  by_cases h2 : s.limit - s.cursor = 0
  · exact .inl ⟨hb, by omega, by omega, by rw [optDecBody, if_neg h0, if_neg h1, if_pos h2]⟩
  refine .inr ?_
  by_cases h3 : s.limit - s.cursor < 4
  · exact .inl ⟨hb, by omega, by omega, .inl (by omega), by
      rw [optDecBody, if_neg h0, if_neg h1, if_neg h2, if_pos h3]⟩
  by_cases h4 : s.codeAt s.cursor = 0 ∧ s.lenAt s.cursor = 0
  · exact .inr (.inl ⟨hb, by omega, by omega, h4.1, h4.2, by
      rw [optDecBody, if_neg h0, if_neg h1, if_neg h2, if_neg h3, if_pos h4]⟩)
  by_cases h5 : recordBytes (s.lenAt s.cursor) > s.limit - s.cursor
  · exact .inl ⟨hb, by omega, by omega, .inr ⟨h4, by omega⟩, by
      rw [optDecBody, if_neg h0, if_neg h1, if_neg h2, if_neg h3, if_neg h4, if_pos h5]⟩
  refine .inr (.inr ⟨hb, by omega, by omega, h4, by omega, ?_⟩)
  rw [optDecBody, if_neg h0, if_neg h1, if_neg h2, if_neg h3, if_neg h4, if_neg h5]
  rcases hm : multiplicity (s.lookup (s.codeAt s.cursor)) .dec s with t | t | _
  · exact .inl ⟨t, .inl rfl, rfl⟩
  · exact .inl ⟨t, .inr rfl, rfl⟩
  · exact .inr ⟨rfl, rfl⟩

/-- What OPT_ENC's pseudocode can end with (R145). -/
theorem optEncBody_cases (s : State) :
    (s.ctrl.bov = false ∧ optEncBody s = .raise .noSection none) ∨
    (s.ctrl.bov = true ∧ s.CursorBad ∧ optEncBody s = .raise .bounds none) ∨
    (s.ctrl.bov = true ∧ ¬s.CursorBad ∧ (s.value = 0 ∨ s.value > 0xFFFF ∨ s.len > 0xFFFF) ∧
      optEncBody s = .raise .usageError none) ∨
    (s.ctrl.bov = true ∧ ¬s.CursorBad ∧ ¬(s.value = 0 ∨ s.value > 0xFFFF ∨ s.len > 0xFFFF) ∧
      s.limit < s.cursor + recordBytes s.len ∧ optEncBody s = .raise .bounds none) ∨
    (s.ctrl.bov = true ∧ s.limit ≤ s.cfg.bufBytes ∧ ¬(s.value = 0 ∨ s.value > 0xFFFF ∨ s.len > 0xFFFF) ∧
      s.cursor + recordBytes s.len ≤ s.limit ∧
      ((∃ t, multiplicity (s.lookup s.value) .enc s = .accept t ∧
          optEncBody s = .commit ((t.storeRecord s.ctrl.bo s.cursor s.value s.len).results
            s.value s.len (s.cursor + 4) (s.cursor + recordBytes s.len))) ∨
       (∃ t, multiplicity (s.lookup s.value) .enc s = .discard t ∧
          optEncBody s = .commit (t.results s.value s.len (s.cursor + 4) s.cursor)) ∨
       (multiplicity (s.lookup s.value) .enc s = .policyFail ∧
          optEncBody s = .raise .policyFail (some .dupOption)))) := by
  by_cases h0 : s.ctrl.bov = false
  · exact .inl ⟨h0, by rw [optEncBody, if_pos h0]⟩
  have hb : s.ctrl.bov = true := by simpa using h0
  refine .inr ?_
  by_cases h1 : s.CursorBad
  · exact .inl ⟨hb, h1, by rw [optEncBody, if_neg h0, if_pos h1]⟩
  refine .inr ?_
  by_cases h2 : s.value = 0 ∨ s.value > 0xFFFF ∨ s.len > 0xFFFF
  · exact .inl ⟨hb, h1, h2, by rw [optEncBody, if_neg h0, if_neg h1, if_pos h2]⟩
  refine .inr ?_
  by_cases h3 : s.cursor + recordBytes s.len > s.limit
  · exact .inl ⟨hb, h1, h2, by omega, by rw [optEncBody, if_neg h0, if_neg h1, if_neg h2, if_pos h3]⟩
  refine .inr ⟨hb, by omega, h2, by omega, ?_⟩
  rw [optEncBody, if_neg h0, if_neg h1, if_neg h2, if_neg h3]
  rcases hm : multiplicity (s.lookup s.value) .enc s with t | t | _
  · exact .inl ⟨t, rfl, rfl⟩
  · exact .inr (.inl ⟨t, rfl, rfl⟩)
  · exact .inr (.inr ⟨rfl, rfl⟩)

/-- What OPT_END's pseudocode can end with (R146). -/
theorem optEndBody_cases (s : State) :
    ((s.CursorBad ∨ s.cursor + 4 > s.limit) ∧ optEndBody s = .raise .bounds none) ∨
    (s.limit ≤ s.cfg.bufBytes ∧ s.cursor + 4 ≤ s.limit ∧
      optEndBody s = .commit { (s.store s.cursor (zeros 4)).results 0 0 (s.cursor + 4) (s.cursor + 4) with
        info := { s.info with endMark := true } }) := by
  by_cases h1 : s.CursorBad
  · exact .inl ⟨.inl h1, by rw [optEndBody, if_pos h1]⟩
  by_cases h2 : s.cursor + 4 > s.limit
  · exact .inl ⟨.inr h2, by rw [optEndBody, if_neg h1, if_pos h2]⟩
  exact .inr ⟨by omega, by omega, by rw [optEndBody, if_neg h1, if_neg h2]⟩

/-- What FRAME_ENC's pseudocode can end with (R174). -/
theorem frameEncBody_cases (s : State) :
    (s.ctrl.bov = false ∧ frameEncBody s = .raise .noSection none) ∨
    (s.ctrl.bov = true ∧ s.CursorBad ∧ frameEncBody s = .raise .bounds none) ∨
    (s.ctrl.bov = true ∧ ¬s.CursorBad ∧ (s.value > 0xFFFFFFFF ∨ totalLength s.len > 0xFFFFFFFF) ∧
      frameEncBody s = .raise .usageError none) ∨
    (s.ctrl.bov = true ∧ ¬s.CursorBad ∧ ¬(s.value > 0xFFFFFFFF ∨ totalLength s.len > 0xFFFFFFFF) ∧
      s.limit < s.cursor + totalLength s.len ∧ frameEncBody s = .raise .bounds none) ∨
    (s.ctrl.bov = true ∧ s.limit ≤ s.cfg.bufBytes ∧ s.value ≤ 0xFFFFFFFF ∧ totalLength s.len ≤ 0xFFFFFFFF ∧
      s.cursor + totalLength s.len ≤ s.limit ∧
      frameEncBody s = .commit ((s.storeFrame s.ctrl.bo s.cursor s.value s.len).results
        s.value (totalLength s.len) (totalLength s.len - 12) (s.cursor + totalLength s.len))) := by
  by_cases h0 : s.ctrl.bov = false
  · exact .inl ⟨h0, by rw [frameEncBody, if_pos h0]⟩
  have hb : s.ctrl.bov = true := by simpa using h0
  refine .inr ?_
  by_cases h1 : s.CursorBad
  · exact .inl ⟨hb, h1, by rw [frameEncBody, if_neg h0, if_pos h1]⟩
  refine .inr ?_
  by_cases h2 : s.value > 0xFFFFFFFF
  · exact .inl ⟨hb, h1, .inl h2, by rw [frameEncBody, if_neg h0, if_neg h1, if_pos h2]⟩
  by_cases h3 : totalLength s.len > 0xFFFFFFFF
  · exact .inl ⟨hb, h1, .inr h3, by rw [frameEncBody, if_neg h0, if_neg h1, if_neg h2, if_pos h3]⟩
  refine .inr ?_
  by_cases h4 : s.cursor + totalLength s.len > s.limit
  · exact .inl ⟨hb, h1, by omega, by omega, by
      rw [frameEncBody, if_neg h0, if_neg h1, if_neg h2, if_neg h3, if_pos h4]⟩
  exact .inr ⟨hb, by omega, by omega, by omega, by omega, by
    rw [frameEncBody, if_neg h0, if_neg h1, if_neg h2, if_neg h3, if_neg h4]⟩

/-- FRAME_DEC's results for a frame of leading length `total` read in order `ord` (R175). -/
def State.frameResults (s : State) (ord : ByteOrder) (total : Nat) : State :=
  s.results (s.loadInt ord s.cursor 4) total (total - 12) (s.cursor + trailerOffset total + 4)

/-- What FRAME_DEC's pseudocode can end with from the leading length on (R175). -/
theorem frameDecIn_cases (ord : ByteOrder) (shb : Bool) (s : State) (total : Nat)
    (ht : total = s.loadInt ord (s.cursor + 4) 4) :
    ((total < 12 ∨ (shb = true ∧ total < 16)) ∧ frameDecIn ord shb s = .raise .frameLengthInvalid none) ∨
    (¬(total < 12 ∨ (shb = true ∧ total < 16)) ∧ s.limit < s.cursor + trailerOffset total + 4 ∧
      frameDecIn ord shb s = .raise .truncated none) ∨
    (¬(total < 12 ∨ (shb = true ∧ total < 16)) ∧ s.cursor + trailerOffset total + 4 ≤ s.limit ∧
      s.loadInt ord (s.cursor + trailerOffset total) 4 ≠ total ∧
      frameDecIn ord shb s = .raise .frameLengthMismatch none) ∨
    (¬(total < 12 ∨ (shb = true ∧ total < 16)) ∧ s.cursor + trailerOffset total + 4 ≤ s.limit ∧
      s.loadInt ord (s.cursor + trailerOffset total) 4 = total ∧
      frameDecIn ord shb s =
        .commit (if shb then (s.frameResults ord total).openSection ord else s.frameResults ord total)) := by
  subst ht
  by_cases h1 : s.loadInt ord (s.cursor + 4) 4 < 12
  · exact .inl ⟨.inl h1, by rw [frameDecIn, if_pos h1]⟩
  by_cases h2 : shb = true ∧ s.loadInt ord (s.cursor + 4) 4 < 16
  · exact .inl ⟨.inr h2, by rw [frameDecIn, if_neg h1, if_pos h2]⟩
  have h12 : ¬(s.loadInt ord (s.cursor + 4) 4 < 12 ∨ (shb = true ∧ s.loadInt ord (s.cursor + 4) 4 < 16)) := by
    rintro (h | h)
    · exact h1 h
    · exact h2 h
  refine .inr ?_
  by_cases h3 : s.cursor + trailerOffset (s.loadInt ord (s.cursor + 4) 4) + 4 > s.limit
  · exact .inl ⟨h12, h3, by rw [frameDecIn, if_neg h1, if_neg h2, if_pos h3]⟩
  refine .inr ?_
  by_cases h4 : s.loadInt ord (s.cursor + trailerOffset (s.loadInt ord (s.cursor + 4) 4)) 4 ≠
      s.loadInt ord (s.cursor + 4) 4
  · exact .inl ⟨h12, by omega, h4, by rw [frameDecIn, if_neg h1, if_neg h2, if_neg h3, if_pos h4]⟩
  exact .inr ⟨h12, by omega, by simpa using h4, by
    rw [frameDecIn, if_neg h1, if_neg h2, if_neg h3, if_neg h4]; rfl⟩

/-- What FRAME_DEC's pseudocode can end with (R175). -/
theorem frameDecBody_cases (s : State) :
    (s.CursorBad ∧ frameDecBody s = .raise .bounds none) ∨
    (s.limit ≤ s.cfg.bufBytes ∧ s.cursor = s.limit ∧
      frameDecBody s = .commit { s.results 0 0 0 s.cursor with info := { s.info with eos := true } }) ∨
    (s.limit ≤ s.cfg.bufBytes ∧ s.cursor < s.limit ∧
      (s.limit < s.cursor + 8 ∨ (s.load s.cursor 4 = shbTypeBytes ∧ s.limit < s.cursor + 12)) ∧
      frameDecBody s = .raise .truncated none) ∨
    (s.limit ≤ s.cfg.bufBytes ∧ s.cursor + 12 ≤ s.limit ∧ s.load s.cursor 4 = shbTypeBytes ∧
      ((detectOrder (s.load (s.cursor + 8) 4) = none ∧ frameDecBody s = .raise .badMagic none) ∨
       ∃ ord, detectOrder (s.load (s.cursor + 8) 4) = some ord ∧ frameDecBody s = frameDecIn ord true s)) ∨
    (s.limit ≤ s.cfg.bufBytes ∧ s.cursor + 8 ≤ s.limit ∧ s.load s.cursor 4 ≠ shbTypeBytes ∧
      ((s.ctrl.bov = false ∧ frameDecBody s = .raise .noSection none) ∨
       (s.ctrl.bov = true ∧ frameDecBody s = frameDecIn s.ctrl.bo false s))) := by
  by_cases h1 : s.CursorBad
  · exact .inl ⟨h1, by rw [frameDecBody, if_pos h1]⟩
  refine .inr ?_
  by_cases h2 : s.limit - s.cursor = 0
  · exact .inl ⟨by omega, by omega, by rw [frameDecBody, if_neg h1, if_pos h2]⟩
  refine .inr ?_
  by_cases h3 : s.limit - s.cursor < 8
  · exact .inl ⟨by omega, by omega, .inl (by omega), by rw [frameDecBody, if_neg h1, if_neg h2, if_pos h3]⟩
  by_cases h4 : s.load s.cursor 4 = shbTypeBytes
  · by_cases h5 : s.limit - s.cursor < 12
    · exact .inl ⟨by omega, by omega, .inr ⟨h4, by omega⟩, by
        rw [frameDecBody, if_neg h1, if_neg h2, if_neg h3, if_pos h4, if_pos h5]⟩
    · refine .inr (.inl ⟨by omega, by omega, h4, ?_⟩)
      rw [frameDecBody, if_neg h1, if_neg h2, if_neg h3, if_pos h4, if_neg h5]
      rcases hd : detectOrder (s.load (s.cursor + 8) 4) with _ | ord
      · exact .inl ⟨rfl, rfl⟩
      · exact .inr ⟨ord, rfl, rfl⟩
  · refine .inr (.inr ⟨by omega, by omega, h4, ?_⟩)
    rw [frameDecBody, if_neg h1, if_neg h2, if_neg h3, if_neg h4]
    by_cases h6 : s.ctrl.bov = false
    · exact .inl ⟨h6, by rw [if_pos h6]⟩
    · exact .inr ⟨by simpa using h6, by rw [if_neg h6]⟩

/-- What FRAME_DEC leaves alone: a commit differs in the RES registers, INFO and CTRL only, and CTRL changes only by opening the
section that INFO reports; a raise reports no problem. -/
theorem frameDecBody_frame (s : State) :
    (∃ e, e ≠ .ok ∧ e ≠ .policyFail ∧ frameDecBody s = .raise e none) ∨
    (∃ u, frameDecBody s = .commit u ∧
      u = { s with res0 := u.res0, res1 := u.res1, res2 := u.res2, res3 := u.res3, info := u.info, ctrl := u.ctrl } ∧
      (u.ctrl = s.ctrl ∨ (u.ctrl = { s.ctrl with bo := u.info.detbo, bov := true } ∧ u.info.shb = true))) := by
  have inner : ∀ ord shb, frameDecBody s = frameDecIn ord shb s →
      (∃ e, e ≠ .ok ∧ e ≠ .policyFail ∧ frameDecBody s = .raise e none) ∨
      (∃ u, frameDecBody s = .commit u ∧
        u = { s with res0 := u.res0, res1 := u.res1, res2 := u.res2, res3 := u.res3, info := u.info, ctrl := u.ctrl } ∧
        (u.ctrl = s.ctrl ∨ (u.ctrl = { s.ctrl with bo := u.info.detbo, bov := true } ∧ u.info.shb = true))) := by
    intro ord shb h
    rcases frameDecIn_cases ord shb s _ rfl with ⟨_, e⟩ | ⟨_, _, e⟩ | ⟨_, _, _, e⟩ | ⟨_, _, _, e⟩
    · exact .inl ⟨_, by decide, by decide, h.trans e⟩
    · exact .inl ⟨_, by decide, by decide, h.trans e⟩
    · exact .inl ⟨_, by decide, by decide, h.trans e⟩
    · refine .inr ⟨_, h.trans e, ?_⟩
      cases shb
      · exact ⟨rfl, .inl rfl⟩
      · exact ⟨rfl, .inr ⟨rfl, rfl⟩⟩
  rcases frameDecBody_cases s with ⟨_, e⟩ | ⟨_, _, e⟩ | ⟨_, _, _, e⟩ | ⟨_, _, _, ⟨_, e⟩ | ⟨ord, _, e⟩⟩ | ⟨_, _, _, ⟨_, e⟩ | ⟨_, e⟩⟩
  · exact .inl ⟨_, by decide, by decide, e⟩
  · exact .inr ⟨_, e, rfl, .inl rfl⟩
  · exact .inl ⟨_, by decide, by decide, e⟩
  · exact .inl ⟨_, by decide, by decide, e⟩
  · exact inner _ _ e
  · exact .inl ⟨_, by decide, by decide, e⟩
  · exact inner _ _ e

end Sys2Proof.Machine
end

