-- ==== Sys2Proof/Laws/HostPort.lean ====
section
/-! SUPPORT. What a host access does, by its offset: one equation per access and target, which later proofs cite instead of unfolding
the aperture map. -/

namespace Sys2Proof.Machine

/-! ### The aperture map -/

theorem target_register (cfg : Config) {off : Nat} (h8 : off % 8 = 0) (h : off < 0x10000) :
    target cfg (cfg.apertureBase + off) .b8 = .register (regAt off) := by
  rw [target, if_neg (by omega), Nat.add_sub_cancel_left, if_pos h, if_pos ⟨h8, rfl⟩]

theorem target_window (cfg : Config) {off : Nat} (width : AccessWidth) (h : 0x10000 ≤ off) :
    target cfg (cfg.apertureBase + off) width = .window (off - 0x10000) := by
  rw [target, if_neg (by omega), Nat.add_sub_cancel_left, if_neg (by omega)]

theorem target_unsupported (cfg : Config) {off : Nat} {width : AccessWidth} (h : off < 0x10000) (hw : ¬(off % 8 = 0 ∧ width = .b8)) :
    target cfg (cfg.apertureBase + off) width = .unsupported := by
  rw [target, if_neg (by omega), Nat.add_sub_cancel_left, if_pos h, if_neg hw]

theorem regAt_registerMap : ∀ p ∈ registerMap, p.1 % 8 = 0 ∧ p.1 < 0x10000 ∧ regAt p.1 = p.2 := by decide

theorem regAt_optDesc {i : Nat} (h : i < 32) : regAt (0x100 + 8 * i) = .optDesc i := by
  unfold regAt
  repeat rw [if_neg (by omega)]
  rw [if_pos (by omega), show (0x100 + 8 * i - 0x100) / 8 = i by omega]

theorem regAt_fwField {j : Nat} (h : j < 16) : regAt (0x200 + 8 * j) = .fwField j := by
  unfold regAt
  repeat rw [if_neg (by omega)]
  rw [if_pos (by omega), show (0x200 + 8 * j - 0x200) / 8 = j by omega]

theorem regAt_reserved {off : Nat} (h : (0x090 ≤ off ∧ off < 0x100) ∨ 0x280 ≤ off) : regAt off = .reserved := by
  unfold regAt
  repeat rw [if_neg (by omega)]

/-! ### Register words, bit by bit -/

theorem getLsbD_bitAt (b : Bool) (pos : Nat) {i : Nat} (hi : i < 64) : (bitAt b pos).getLsbD i = (b && decide (i = pos)) := by
  cases b with
  | false => simp [bitAt]
  | true =>
    rw [bitAt, if_pos rfl, BitVec.getLsbD_shiftLeft, BitVec.getLsbD_one, Bool.true_and]
    by_cases h : i = pos
    · simp [h, show pos < 64 by omega]
    · simp only [h, decide_false]
      by_cases h' : i < pos
      · simp [h']
      · simp [show i - pos ≠ 0 by omega]

theorem getLsbD_fieldAt {n : Nat} (v : BitVec n) (pos : Nat) {i : Nat} (hi : i < 64) :
    (fieldAt v pos).getLsbD i = (decide (pos ≤ i) && v.getLsbD (i - pos)) := by
  rw [fieldAt, BitVec.getLsbD_shiftLeft, BitVec.getLsbD_setWidth]
  by_cases h : i < pos
  · simp [h]
  · simp [h, hi, show pos ≤ i by omega, show i - pos < 64 by omega]

/-! ### Accesses -/

theorem hostWrite_register (s : State) {off : Nat} (v : Word) (h8 : off % 8 = 0) (h : off < 0x10000) :
    hostWrite (s.cfg.apertureBase + off) .b8 v s =
      .next (if s.status.busy then s.writeRegBusy (regAt off) v else s.writeReg (regAt off) v) := by
  rw [hostWrite, target_register _ h8 h]

theorem hostRead_register (s : State) {off : Nat} (h8 : off % 8 = 0) (h : off < 0x10000) :
    hostRead (s.cfg.apertureBase + off) .b8 s = .next (s.deliver (s.regDatum (regAt off))) := by
  rw [hostRead, target_register _ h8 h]

theorem hostRead_window (s : State) {off : Nat} (width : AccessWidth) (h : 0x10000 ≤ off) :
    hostRead (s.cfg.apertureBase + off) width s = .next (s.deliver (s.windowDatum (off - 0x10000) width)) := by
  rw [hostRead, target_window _ width h]

/-- What a host receives from an 8-byte read of the register space is the datum of the register at that offset. -/
theorem State.hostReads_register (s : State) {off : Nat} (h8 : off % 8 = 0) (h : off < 0x10000) (v : Word) :
    s.HostReads off v ↔ s.regDatum (regAt off) = v := by
  simp [State.HostReads, hostRead_register s h8 h]

theorem State.regDatum_idle {s : State} (h : s.status.busy = false) (r : Reg) : s.regDatum r = s.readReg r := by
  simp [State.regDatum, h]

/-- Outside the bits R72 leaves unspecified, a register's datum is its value, busy or idle. -/
theorem State.regDatum_stable (s : State) (r : Reg) {m : Word} (h : r.volatileBits &&& m = 0) :
    s.regDatum r &&& m = s.readReg r &&& m := by
  unfold State.regDatum
  split
  · ext i hi
    have hi' := congrArg (fun w : Word => w.getLsbD i) h
    clear h
    cases hv : r.volatileBits.getLsbD i <;> cases hm : m.getLsbD i <;> simp_all [← BitVec.getLsbD_eq_getElem]
  · rfl

end Sys2Proof.Machine
end

