-- ==== Sys2Proof/Laws/PerInstr.lean ====
section
/-! SUPPORT. One law per command: the word of a well-formed command selects the row of the opcode map that carries its mnemonic. -/

namespace Sys2Proof.Laws.TableRow

/-- The mnemonic a command's row carries (spec/30_encoding.md R86). -/
def mnemonic : Instr → String
  | .nop => "NOP"
  | .intDec _ _ => "INT_DEC"
  | .intEnc _ _ => "INT_ENC"
  | .flagConfig => "FLAG_CONFIG"
  | .flagGet _ => "FLAG_GET"
  | .flagSet _ => "FLAG_SET"
  | .optBegin => "OPT_BEGIN"
  | .optDec => "OPT_DEC"
  | .optEnc => "OPT_ENC"
  | .optEnd => "OPT_END"
  | .frameEnc => "FRAME_ENC"
  | .frameDec => "FRAME_DEC"

/-- The word of a well-formed command selects a row, and the row is the command's own. -/
def Statement (i : Instr) : Prop :=
  i.WellFormed → (opcodeTable.find? (fun r => r.selects (encode i))).map Row.mnemonic = some (mnemonic i)

theorem nop : Statement .nop := by intro _; decide
theorem intDec (width : IntWidth) (signed : Bool) : Statement (.intDec width signed) := by
  intro _; cases width <;> cases signed <;> decide
theorem intEnc (width : IntWidth) (signed : Bool) : Statement (.intEnc width signed) := by
  intro _; cases width <;> cases signed <;> decide
theorem flagConfig : Statement .flagConfig := by intro _; decide
theorem flagGet (fidx : Nat) : Statement (.flagGet fidx) := by
  intro h
  have h16 : fidx < 16 := by simpa [Instr.WellFormed, Instr.wellFormed] using h
  interval_cases fidx <;> decide
theorem flagSet (fidx : Nat) : Statement (.flagSet fidx) := by
  intro h
  have h16 : fidx < 16 := by simpa [Instr.WellFormed, Instr.wellFormed] using h
  interval_cases fidx <;> decide
theorem optBegin : Statement .optBegin := by intro _; decide
theorem optDec : Statement .optDec := by intro _; decide
theorem optEnc : Statement .optEnc := by intro _; decide
theorem optEnd : Statement .optEnd := by intro _; decide
theorem frameEnc : Statement .frameEnc := by intro _; decide
theorem frameDec : Statement .frameDec := by intro _; decide

end Sys2Proof.Laws.TableRow
end

