-- ==== Sys2Proof/Tests/Slice0.lean ====
section
/-! SUPPORT. The model's own tests. Expected values come from spec/95_test_vectors.md (the vector is named beside each test) or from
the rule named there. The witnesses at the end show, for every statement with hypotheses, states and operands that meet them. -/

namespace Sys2Proof.Tests

open Sys2Proof.Machine

/-! ### Well-formedness: a sub-field index past 15 is refused (R84) -/

theorem test_wellFormed_refuses_flagGet_16 : ¬(Instr.flagGet 16).WellFormed := by decide
theorem test_wellFormed_refuses_flagSet_16 : ¬(Instr.flagSet 16).WellFormed := by decide
theorem test_wellFormed_accepts_15 : (Instr.flagGet 15).WellFormed ∧ (Instr.flagSet 15).WellFormed := by decide

/-! ### Decoding: words written out bit by bit from the formats of R81 and the opcodes of R86 -/

theorem test_decode_nop : decode 0b00000000_00000000_00000000_00000000#32 = .ok .nop := by decide
theorem test_decode_intDec_s64 : decode 0b00000000_00000000_00010011_00000001#32 = .ok (.intDec .w64 true) := by decide
theorem test_decode_intDec_u8 : decode 0b00000000_00000000_00000000_00000001#32 = .ok (.intDec .w8 false) := by decide
theorem test_decode_intEnc_16 : decode 0b00000000_00000000_00000001_00000010#32 = .ok (.intEnc .w16 false) := by decide
theorem test_decode_intEnc_s32 : decode 0b00000000_00000000_00010010_00000010#32 = .ok (.intEnc .w32 true) := by decide
theorem test_decode_flagConfig : decode 0b00000000_00000000_00000000_00010000#32 = .ok .flagConfig := by decide
theorem test_decode_flagGet_10 : decode 0b00000000_00001010_00000000_00010001#32 = .ok (.flagGet 10) := by decide
theorem test_decode_flagSet_5 : decode 0b00000000_00000101_00000000_00010010#32 = .ok (.flagSet 5) := by decide
theorem test_decode_optBegin : decode 0b00000000_00000000_00000000_00100000#32 = .ok .optBegin := by decide
theorem test_decode_optDec : decode 0b00000000_00000000_00000000_00100001#32 = .ok .optDec := by decide
theorem test_decode_optEnc : decode 0b00000000_00000000_00000000_00100010#32 = .ok .optEnc := by decide
theorem test_decode_optEnd : decode 0b00000000_00000000_00000000_00100011#32 = .ok .optEnd := by decide
theorem test_decode_frameEnc : decode 0b00000000_00000000_00000000_00110000#32 = .ok .frameEnc := by decide
theorem test_decode_frameDec : decode 0b00000000_00000000_00000000_00110001#32 = .ok .frameDec := by decide

/-- V-CMD-2 and V-CMD-6: no such opcode. -/
theorem test_decode_undefined :
    decode 0x00000003#32 = .error .undefinedOpcode ∧ decode 0x000000FF#32 = .error .undefinedOpcode := by decide
/-- V-CMD-3, V-CMD-4, V-CMD-5: a reserved bit is set. -/
theorem test_decode_reserved :
    decode 0x00000100#32 = .error .reservedBits ∧ decode 0x00000401#32 = .error .reservedBits ∧
      decode 0x00010020#32 = .error .reservedBits := by decide

/-! ### Start states -/

/-- Hard reset with bytes at 0 and no section open. -/
def closed (bytes : List Byte) : State := { State.reset with buf := Memory.putAll [] 0 bytes }

/-- Hard reset with bytes at 0 and a section of this order open. -/
def opened (ord : ByteOrder) (bytes : List Byte) : State :=
  { closed bytes with ctrl := { Ctrl.reset with bo := ord, bov := true } }

/-- The same with a policy. -/
def under (p : Policy) (dupkeep : Bool) (s : State) : State :=
  { s with ctrl := { s.ctrl with policy := p, dupkeep := dupkeep } }

/-- Schema A of section 2.3, of declared width w, as the host writes it. -/
def schemaA (w : BitVec 7) : State :=
  { State.reset with
    fwCfg := { w := w, nf := 3, valid := false }
    fwField :=
      ((State.reset.fwField.setIfInBounds 0 { kind := .bool, width := 1, nsym := 0, offset := 0 }).setIfInBounds 1
        { kind := .uint, width := 4, nsym := 0, offset := 0 }).setIfInBounds 2
        { kind := .enum, width := 2, nsym := 3, offset := 0 } }

/-- Schema A configured (V-FLG-1), with a flag word and an argument. -/
def configured (value arg : Word) : State :=
  { schemaA 32 with
    fwCfg := { w := 32, nf := 3, valid := true }
    fwField :=
      ((State.reset.fwField.setIfInBounds 0 { kind := .bool, width := 1, nsym := 0, offset := 0 }).setIfInBounds 1
        { kind := .uint, width := 4, nsym := 0, offset := 1 }).setIfInBounds 2
        { kind := .enum, width := 2, nsym := 3, offset := 5 }
    fwValue := value
    arg0 := arg }

/-- DESC_A of section 2.4. -/
def descA : OptDesc := { code := 2, kind := 1, type := 1, mult := false, valid := true }

/-- OPT_DESC[0] = DESC_A, OPT_KIND = 1, and these OPT_SEEN bits. -/
def listening (seen : BitVec 32) (s : State) : State :=
  { s with optKind := 1, optSeen := seen, optDesc := s.optDesc.setIfInBounds 0 descA }

/-- LIST_A of section 2.4. -/
def listA : List Byte :=
  [0x02, 0x00, 0x01, 0x00, 0x41, 0x00, 0x00, 0x00, 0x02, 0x00, 0x01, 0x00, 0x42, 0x00, 0x00, 0x00, 0x00, 0x00, 0x00, 0x00]

/-- A record at 0 whose code is no entry's: code 7, length 1. -/
def recordSeven : List Byte := [0x07, 0x00, 0x01, 0x00, 0x41, 0x00, 0x00, 0x00]

/-- The frame of V-FRM-12. -/
def frameSix : List Byte := [0x06, 0x00, 0x00, 0x00, 0x0C, 0x00, 0x00, 0x00, 0x0C, 0x00, 0x00, 0x00]

/-- The Section Header of V-FRM-14, big-endian. -/
def headerBE : List Byte :=
  [0x0A, 0x0D, 0x0D, 0x0A, 0x00, 0x00, 0x00, 0x1C, 0x1A, 0x2B, 0x3C, 0x4D, 0x00, 0x01, 0x00, 0x00,
   0xFF, 0xFF, 0xFF, 0xFF, 0xFF, 0xFF, 0xFF, 0xFF, 0x00, 0x00, 0x00, 0x1C]

/-- An outcome is a next state with a property. -/
def next (o : Host.Outcome State Fault Refusal) (p : State → Bool) : Bool :=
  match o with
  | .next t => p t
  | .fault _ => false
  | .refused _ => false

/-- RES0 to RES3 and INFO, as the host reads them. -/
def results (s : State) : List Nat := [s.res0.toNat, s.res1.toNat, s.res2.toNat, s.res3.toNat, s.info.toWord.toNat]

/-! ### One step per command -/

/-- V-CMD-1, with the word laid by `withFetchWord`. -/
theorem test_nop : next (step (State.reset.withFetchWord 32 0)) (fun t => t.status.toWord = 0x2) = true := by decide
/-- V-CMD-4: ILLEGAL_CMD comes before NO_SECTION. -/
theorem test_illegal :
    next (step (State.reset.withFetchWord 32 0x401)) (fun t => t.status.toWord = 0x1006) = true := by decide

/-- V-INT-8. -/
theorem test_intDec_be_s16 :
    next (exec (.intDec .w16 true) ((opened .be [0x80, 0x81]).withArgs 0 8 0 0))
      (fun t => results t = [0xFFFFFFFFFFFF8081, 0, 0, 2, 0]) = true := by decide
/-- V-INT-12. -/
theorem test_intDec_bounds :
    next (exec (.intDec .w32 false) ((opened .le []).withArgs 6 8 0 0)) (fun t => t.status.errcode.code = 0x14) = true := by
  decide
/-- V-INT-17. -/
theorem test_intEnc_le_s32 :
    next (exec (.intEnc .w32 true) ((opened .le []).withArgs 0 8 0xFFFFFFFFFFFFFFFE 0))
      (fun t => t.load 0 4 = [0xFE, 0xFF, 0xFF, 0xFF] && t.res0 = 0xFFFFFFFE) = true := by decide
/-- V-INT-18. -/
theorem test_intEnc_be_64 :
    next (exec (.intEnc .w64 false) ((opened .be []).withArgs 0 8 0x0102030405060708 0))
      (fun t => t.load 0 8 = [1, 2, 3, 4, 5, 6, 7, 8] && t.res3 = 8) = true := by decide

/-- V-FLG-1. -/
theorem test_flagConfig :
    next (exec .flagConfig (schemaA 32))
      (fun t => t.readReg .fwCfg = 0x10320 && t.readReg (.fwField 1) = 0x0100000000000401 &&
        t.readReg (.fwField 2) = 0x0500000300000202) = true := by decide
/-- V-FLG-2. -/
theorem test_flagConfig_too_wide :
    next (exec .flagConfig (schemaA 4)) (fun t => t.status.errcode.code = 0x05 && !t.fwCfg.valid) = true := by decide
/-- V-FLG-18. -/
theorem test_flagGet_invalid :
    next (exec (.flagGet 2) (configured 0x63 3)) (fun t => results t = [3, 0, 0, 0, 0x100000000]) = true := by decide
/-- V-FLG-21. -/
theorem test_flagGet_no_such_field :
    next (exec (.flagGet 3) (configured 0x43 6)) (fun t => t.status.errcode.code = 0x05 && t.res0 = 0) = true := by decide
/-- V-FLG-16. -/
theorem test_flagSet_truncates :
    next (exec (.flagSet 1) (configured 0x1 17)) (fun t => t.fwValue = 0x3 && t.res0 = 0x3) = true := by decide
/-- V-FLG-24. -/
theorem test_flagSet_keeps_unused_bits :
    next (exec (.flagSet 0) (configured 0xFFFFFFFFFFFFFF80 0x8000000000000000))
      (fun t => t.fwValue = 0xFFFFFFFFFFFFFF81) = true := by decide

/-- V-OPT-32. -/
theorem test_optBegin : next (exec .optBegin { State.reset with optSeen := 5 }) (fun t => t.optSeen = 0) = true := by decide
/-- V-OPT-14. -/
theorem test_optDec_duplicate_fails :
    next (exec .optDec ((listening 1 (opened .le listA)).withArgs 8 20 0 0))
      (fun t => t.status.toWord = 0x00010416 && t.problemCnt = 1 && results t = [0, 0, 0, 0, 0]) = true := by decide
/-- V-OPT-16. -/
theorem test_optDec_duplicate_supersedes :
    next (exec .optDec ((listening 1 (under .fix true (opened .le listA))).withArgs 8 20 0 0))
      (fun t => results t = [2, 1, 12, 16, 0x01002C00]) = true := by decide
/-- V-OPT-29. -/
theorem test_optEnc :
    next (exec .optEnc ((opened .le [0, 0, 0, 0, 0x68, 0x65, 0x6C, 0x6C, 0x6F]).withArgs 0 16 2 5))
      (fun t => t.load 0 12 = [0x02, 0x00, 0x05, 0x00, 0x68, 0x65, 0x6C, 0x6C, 0x6F, 0x00, 0x00, 0x00] &&
        t.res3 = 12) = true := by decide
/-- V-OPT-26. -/
theorem test_optEnc_duplicate_discarded :
    next (exec .optEnc ((listening 1 (under .fix false (opened .le listA))).withArgs 8 64 2 1))
      (fun t => results t = [2, 1, 12, 8, 0x01001C00] && t.load 8 4 = [0x02, 0x00, 0x01, 0x00]) = true := by decide
/-- V-OPT-30. -/
theorem test_optEnd :
    next (exec .optEnd ((closed [1, 2, 3, 4, 5]).withArgs 0 4 0 0))
      (fun t => t.load 0 5 = [0, 0, 0, 0, 5] && results t = [0, 0, 4, 4, 0x100]) = true := by decide

/-- V-FRM-9. -/
theorem test_frameEnc :
    next (exec .frameEnc ((opened .be [0, 0, 0, 0, 0, 0, 0, 0, 0x68, 0x65, 0x6C, 0x6C, 0x6F]).withArgs 0 64 0x01020304 5))
      (fun t => t.load 0 20 = [0x01, 0x02, 0x03, 0x04, 0x00, 0x00, 0x00, 0x14, 0x68, 0x65, 0x6C, 0x6C, 0x6F,
          0x00, 0x00, 0x00, 0x00, 0x00, 0x00, 0x14] &&
        results t = [0x01020304, 20, 8, 20, 0]) = true := by decide
/-- V-FRM-4. -/
theorem test_frameEnc_usage :
    next (exec .frameEnc ((opened .le []).withArgs 0 65536 1 0xFFFFFFF4)) (fun t => t.status.errcode.code = 0x05) = true := by
  decide
/-- V-FRM-14. -/
theorem test_frameDec_section_header :
    next (exec .frameDec ((closed headerBE).withArgs 0 28 0 0))
      (fun t => results t = [0x0A0D0D0A, 28, 16, 28, 0x6] && t.readReg .ctrl = 0xF) = true := by decide
/-- V-FRM-23. -/
theorem test_frameDec_unaligned_length :
    next (exec .frameDec ((opened .le [0x06, 0, 0, 0, 0x0E, 0, 0, 0, 0xAA, 0xBB, 0xCC, 0xDD, 0x0E, 0, 0, 0]).withArgs 0 20 0 0))
      (fun t => results t = [6, 14, 2, 16, 0]) = true := by decide

/-! ### Host accesses -/

/-- V-CMD-8. -/
theorem test_write_while_busy_dropped :
    next (hostWrite 0x030 .b8 5 (State.reset.latch 0)) (fun t => t.arg0 = 0 && t.status.ovr && t.status.busy) = true := by decide
/-- V-CMD-9. -/
theorem test_soft_reset :
    next (hostWrite 0x008 .b8 0x8000000000000000 ((under .warn false (opened .le [0x55])).withArgs 7 0 0 0))
      (fun t => t.readReg .ctrl = 0xC && t.arg0 = 0 && t.readReg .status = 0 && t.byteAt 0 = 0x55) = true := by decide
/-- V-CMD-7: irq, and its clearing by W1C. -/
theorem test_irq :
    (let s := State.reset.latch 3
     next (engineTurn { s with ctrl := { s.ctrl with ieErr := true } }) (fun t => t.irq &&
       next (hostWrite 0x010 .b8 0x4 t) (fun u => !u.irq)) = true) := by decide
/-- R65's example. -/
theorem test_window_little_endian :
    next (exec (.intEnc .w32 false) ((opened .be []).withArgs 0 4 0x11223344 0))
      (fun t => t.load 0 4 = [0x11, 0x22, 0x33, 0x44] &&
        next (hostRead 0x10000 .b4 t) (fun u => u.busRead = 0x44332211)) = true := by decide
/-- V-FLG-23: a write to FW_FIELD clears VALID. -/
theorem test_field_write_clears_valid :
    next (hostWrite 0x200 .b8 0x100 (configured 0 0)) (fun t => !t.fwCfg.valid && t.readReg (.fwField 1) = 0x0100000000000401)
      = true := by decide
/-- R21, R35 (DESC_A is 0x81010002 in section 2.4). -/
theorem test_register_layouts :
    State.reset.readReg .id = 0x0000000150424631 ∧ descA.toWord = 0x81010002 ∧
      OptDesc.ofWord 0xA1010002 = { descA with mult := true } := by decide

/-- The memory of the reset state is in canonical form. -/
theorem test_reset_memory_wf : State.reset.buf.wf := by decide

/-! ### Witnesses: for every statement with hypotheses, a state and operands that meet them, clause by clause -/

theorem witness_EveryWordSelectsAtMostOneRow :
    (⟨"INT_DEC", .intDec, 0x00000001, 0xFFFFECFF⟩ : Row) ∈ opcodeTable ∧ 0x00001301#32 &&& 0xFFFFECFF = 0x00000001 := by decide

theorem witness_IllegalWordsCompleteWithIllegalCmd :
    (∃ e, decode 0x00000401#32 = .error e) ∧ (∀ r ∈ opcodeTable, opField r.pattern ≠ opField 0x40#32) ∧
      (0xFFFFFFFF00000401 : Word).setWidth 32 = 0x00000401#32 ∧ State.reset.status.busy = false ∧
      (State.reset.latch 0x401).status.busy = true ∧ (State.reset.latch 0x401).cmd = 0x401 := ⟨⟨.reservedBits, by decide⟩, by decide⟩

theorem witness_DecodeOfEncodeGivesTheCommand : (Instr.flagGet 15).WellFormed ∧ (Instr.intDec .w64 true).WellFormed := by decide

theorem witness_EncodeOfDecodeGivesTheWord : decode 0x000F0012#32 = .ok (.flagSet 15) := by decide

theorem witness_StepPerformsTheLatchedCommand :
    (let s := State.reset.latch 0x31; s.status.busy = true ∧ decode s.cmd = .ok .frameDec ∧ s.turns = []) ∧
    (let s := State.reset.withFetchWord 32 0; s.status.busy = true ∧ decode s.cmd = .ok .nop ∧ s.turns = .engine :: []) ∧
    State.reset.status.busy = false ∧ State.reset.turns = [] ∧
    (let s := { State.reset with turns := [Turn.engine, .hardReset] }
     s.status.busy = false ∧ s.turns = .engine :: [Turn.hardReset]) := by decide

theorem witness_TurnsArePerformedInOrder :
    (let s := { State.reset with turns := [Turn.write 0x030 .b8 5, .engine] }
     s.turns = .write 0x030 .b8 5 :: [Turn.engine]) ∧
    (let s := { State.reset with turns := [Turn.read 0x10000 .b1] }; s.turns = .read 0x10000 .b1 :: []) ∧
    (let s := { State.reset with turns := [Turn.hardReset] }; s.turns = .hardReset :: []) := by decide

theorem witness_CmdWriteLatchesTheWord : State.reset.status.busy = false := by decide

theorem witness_EveryLatchedWordCompletes :
    (State.reset.latch 0).status.busy = true ∧ (State.reset.latch 0xFFFFFFFF).status.busy = true := by decide

/-- Both clauses: an error without a report, and POLICY_FAIL. -/
theorem witness_FailedCommandsLeaveNoOtherTrace :
    (∃ s t, s.status.busy = true ∧ engineTurn s = .next t ∧ t.status.errcode ≠ .ok ∧ t.status.errcode ≠ .policyFail) ∧
    ∃ s t, s.status.busy = true ∧ engineTurn s = .next t ∧ t.status.errcode ≠ .ok ∧ t.status.errcode = .policyFail :=
  ⟨⟨State.reset.latch 0x101, _, rfl, rfl, by decide, by decide⟩,
    ⟨((listening 1 (opened .le listA)).withArgs 8 20 0 0).latch 0x21, _, rfl, rfl, by decide, by decide⟩⟩

theorem witness_CommandsWriteOnlyTheirRegisters :
    (∃ t, exec .frameDec ((closed headerBE).withArgs 0 28 0 0) = .next t) ∧ ∃ t, exec .flagConfig (schemaA 32) = .next t :=
  ⟨⟨_, rfl⟩, ⟨_, rfl⟩⟩

/-- NOP with every flag set, and a duplicate under WARN with none set. -/
theorem witness_NoCommandClearsOrReadsStickyFlags :
    (∃ s t, s.status.busy = true ∧ engineTurn s = .next t ∧ s.status.done = true ∧ s.status.err = true ∧
      s.status.warn = true ∧ s.status.problem = true) ∧
    ∃ t, engineTurn (((listening 1 (under .warn false (opened .le listA))).withArgs 0 12 0 0).latch 0x21) = .next t ∧
      t.info.dup = true ∧ t.status.warn = true :=
  ⟨⟨(State.latch { State.reset with
      status := { State.reset.status with done := true, err := true, warn := true, problem := true } } 0),
    _, rfl, rfl, rfl, rfl, rfl, rfl⟩, _, rfl, by decide, by decide⟩

theorem witness_PolicyNeverGatesOtherErrors :
    ∃ s t t', s.status.busy = true ∧ engineTurn s = .next t ∧
      engineTurn { s with ctrl := { s.ctrl with policy := .ignore } } = .next t' ∧
      t.status.errcode = .noSection ∧ ErrorCode.noSection ≠ .ok ∧ ErrorCode.noSection ≠ .policyFail :=
  ⟨State.reset.latch 0x21, _, _, rfl, rfl, rfl, by decide, by decide, by decide⟩

/-- Two states that differ in the byte at the limit and in the draw. -/
theorem witness_CommandsReadOnlyBetweenCursorAndLimit :
    let s := (opened .le [0x80, 0x81, 0x82]).withArgs 0 2 0 0
    (∀ a, s.cursor ≤ a → a < s.limit →
      ({ s with buf := Memory.putAll [] 0 [0x80, 0x81, 0xFF], bufDraw := 5 } : State).byteAt a = s.byteAt a) ∧
    ∃ t, exec (.intDec .w16 false) s = .next t := by
  refine ⟨fun a _ h => ?_, _, rfl⟩
  have h2 : a < 2 := h
  interval_cases a <;> rfl

theorem witness_CommandsWriteOnlyBetweenCursorAndLimit :
    (∃ t, exec .optEnd ((opened .le [1, 2, 3, 4, 5, 6]).withArgs 1 5 0 0) = .next t) ∧
    ∃ t, exec .nop ((opened .le [1]).withArgs 1 5 0 0) = .next t := ⟨⟨_, rfl⟩, ⟨_, rfl⟩⟩

/-- A word of NOP's opcode with the lowest and with the highest reserved bit set. -/
theorem witness_NopOnlyCompletes :
    opField 0x00000100#32 = 0 ∧ 0x00000100#32 ≠ 0 ∧ opField 0x80000000#32 = 0 ∧ 0x80000000#32 ≠ 0 := by decide

/-- No section; a limit past BUF, a cursor past the limit and one byte too few; a read that ends at the limit. -/
theorem witness_IntDecDecodesOneInteger :
    IntWidth.bytes .w64 = 2 ^ 3 ∧
    State.reset.ctrl.bov = false ∧
    (let s := (opened .le []).withArgs 0 65537 0 0; s.ctrl.bov = true ∧ s.limit > s.cfg.bufBytes) ∧
    (let s := (opened .le []).withArgs 9 8 0 0; s.ctrl.bov = true ∧ s.cursor > s.limit) ∧
    (let s := (opened .le []).withArgs 7 8 0 0; s.ctrl.bov = true ∧ s.cursor + IntWidth.bytes .w16 > s.limit) ∧
    (let s := (opened .be [0x80, 0x81]).withArgs 0 2 0 0
     s.ctrl.bov = true ∧ s.limit ≤ s.cfg.bufBytes ∧ s.cursor + IntWidth.bytes .w16 ≤ s.limit) := by decide

theorem witness_IntEncEncodesOneInteger :
    IntWidth.bytes .w8 = 2 ^ 0 ∧
    State.reset.ctrl.bov = false ∧
    (let s := (opened .le []).withArgs 1 8 5 0; s.ctrl.bov = true ∧ s.cursor + IntWidth.bytes .w64 > s.limit) ∧
    (let s := (opened .le []).withArgs 65528 65536 5 0
     s.ctrl.bov = true ∧ s.limit ≤ s.cfg.bufBytes ∧ s.cursor + IntWidth.bytes .w64 ≤ s.limit) := by decide

/-- The least and the greatest signed value of 8 bits. -/
theorem witness_IntegersRoundTrip :
    (let s := (opened .le []).withArgs 0 1 (2 ^ 64 - 128) 0
     s.ctrl.bov = true ∧ s.limit ≤ s.cfg.bufBytes ∧ s.cursor + IntWidth.bytes .w8 ≤ s.limit ∧
       -(2 ^ (8 * IntWidth.bytes .w8 - 1) : Int) ≤ s.arg2.toInt ∧ s.arg2.toInt < 2 ^ (8 * IntWidth.bytes .w8 - 1)) ∧
    (let s := (opened .be []).withArgs 0 1 127 0
     s.ctrl.bov = true ∧ s.limit ≤ s.cfg.bufBytes ∧ s.cursor + IntWidth.bytes .w8 ≤ s.limit ∧
       -(2 ^ (8 * IntWidth.bytes .w8 - 1) : Int) ≤ s.arg2.toInt ∧ s.arg2.toInt < 2 ^ (8 * IntWidth.bytes .w8 - 1)) := by decide

/-- V-FLG-3 (the total equals W) and V-FLG-6 (an empty schema of width 64) are legal; V-FLG-2 and V-FLG-5 are not. -/
theorem witness_FlagConfigValidatesTheSchema :
    (let s := schemaA 7
     1 ≤ s.fwCfg.w.toNat ∧ s.fwCfg.w.toNat ≤ 64 ∧ s.nf ≤ 16 ∧ (∀ j, j < s.nf → (s.field j).legal = true) ∧
       s.offsetOf s.nf ≤ s.fwCfg.w.toNat) ∧
    (let s := { State.reset with fwCfg := { w := 64, nf := 0, valid := false } }
     1 ≤ s.fwCfg.w.toNat ∧ s.fwCfg.w.toNat ≤ 64 ∧ s.nf ≤ 16 ∧ (∀ j, j < s.nf → (s.field j).legal = true) ∧
       s.offsetOf s.nf ≤ s.fwCfg.w.toNat) ∧
    (let s := schemaA 4
     ¬(1 ≤ s.fwCfg.w.toNat ∧ s.fwCfg.w.toNat ≤ 64 ∧ s.nf ≤ 16 ∧ (∀ j, j < s.nf → (s.field j).legal = true) ∧
       s.offsetOf s.nf ≤ s.fwCfg.w.toNat)) ∧
    (let s := { State.reset with fwCfg := { w := 65, nf := 0, valid := false } }
     ¬(1 ≤ s.fwCfg.w.toNat ∧ s.fwCfg.w.toNat ≤ 64 ∧ s.nf ≤ 16 ∧ (∀ j, j < s.nf → (s.field j).legal = true) ∧
       s.offsetOf s.nf ≤ s.fwCfg.w.toNat)) := by decide

theorem witness_SubfieldsArePackedWithoutOverlap :
    ∃ t, exec .flagConfig (schemaA 7) = .next t ∧ t.status.errcode = .ok ∧ 0 < t.nf ∧ 1 + 1 < t.nf :=
  ⟨_, rfl, by decide, by decide, by decide⟩

/-- No valid schema; the first index past the schema; the last sub-field. -/
theorem witness_FlagGetReadsTheSubfield :
    15 < 16 ∧
    (schemaA 32).fwCfg.valid = false ∧ (configured 0x63 0).nf ≤ 3 ∧
    (configured 0x63 0).fwCfg.valid = true ∧ 2 < (configured 0x63 0).nf := by decide

theorem witness_configured_meets_SchemaInv : (configured 0x63 17).SchemaInv := by
  unfold State.SchemaInv
  decide

theorem witness_FlagSetWritesOnlyTheSubfield :
    (schemaA 32).SchemaInv ∧ (schemaA 32).fwCfg.valid = false ∧
    (configured 0x63 17).SchemaInv ∧ (configured 0x63 17).fwCfg.valid = true ∧
    2 < (configured 0x63 17).nf ∧ (configured 0x63 17).nf ≤ 3 ∧ 15 < 16 :=
  ⟨fun h => absurd h (by decide), by decide, witness_configured_meets_SchemaInv, by decide⟩

/-- One sub-field, and two different ones. -/
theorem witness_FlagGetAfterFlagSet :
    (configured 0x63 17).SchemaInv ∧ (configured 0x63 17).fwCfg.valid = true ∧
    1 < (configured 0x63 17).nf ∧ 2 < (configured 0x63 17).nf ∧ (2 ≠ 1) :=
  ⟨witness_configured_meets_SchemaInv, by decide⟩

/-- No section; a bad cursor; the cursor at the limit; one byte and three bytes left; a terminator; a length one byte too long. -/
theorem witness_OptDecEndsAndErrors :
    State.reset.ctrl.bov = false ∧
    (let s := (opened .le []).withArgs 9 8 0 0; s.ctrl.bov = true ∧ s.cursor > s.limit) ∧
    (let s := (opened .le []).withArgs 8 8 0 0; s.ctrl.bov = true ∧ s.limit ≤ s.cfg.bufBytes ∧ s.cursor = s.limit) ∧
    (let s := (opened .le []).withArgs 7 8 0 0
     s.ctrl.bov = true ∧ s.limit ≤ s.cfg.bufBytes ∧ s.cursor < s.limit ∧ s.limit < s.cursor + 4) ∧
    (let s := (opened .le []).withArgs 5 8 0 0
     s.ctrl.bov = true ∧ s.limit ≤ s.cfg.bufBytes ∧ s.cursor < s.limit ∧ s.limit < s.cursor + 4) ∧
    (let s := (opened .le [0, 0, 0, 0]).withArgs 0 4 0 0
     s.ctrl.bov = true ∧ s.limit ≤ s.cfg.bufBytes ∧ s.cursor + 4 ≤ s.limit ∧
       0 = fromBytes s.ctrl.bo (s.load s.cursor 2) ∧ 0 = fromBytes s.ctrl.bo (s.load (s.cursor + 2) 2)) ∧
    (let s := (opened .le recordSeven).withArgs 0 7 0 0
     s.ctrl.bov = true ∧ s.limit ≤ s.cfg.bufBytes ∧ s.cursor + 4 ≤ s.limit ∧
       7 = fromBytes s.ctrl.bo (s.load s.cursor 2) ∧ 1 = fromBytes s.ctrl.bo (s.load (s.cursor + 2) 2) ∧
       ¬(7 = 0 ∧ 1 = 0) ∧ s.limit < s.cursor + 4 + ceil4 1) := by decide

/-- An unknown record that ends at the limit, and the first of a non-multiple option. -/
theorem witness_OptDecReportsOneRecord :
    (let s := (listening 1 (opened .le recordSeven)).withArgs 0 8 0 0
     s.ctrl.bov = true ∧ s.limit ≤ s.cfg.bufBytes ∧ s.cursor + 4 ≤ s.limit ∧
       7 = fromBytes s.ctrl.bo (s.load s.cursor 2) ∧ 1 = fromBytes s.ctrl.bo (s.load (s.cursor + 2) 2) ∧
       ¬(7 = 0 ∧ 1 = 0) ∧ s.cursor + 4 + ceil4 1 ≤ s.limit ∧ ¬s.Duplicate 7) ∧
    (let s := (listening 0 (opened .le listA)).withArgs 0 20 0 0
     s.ctrl.bov = true ∧ s.limit ≤ s.cfg.bufBytes ∧ s.cursor + 4 ≤ s.limit ∧
       2 = fromBytes s.ctrl.bo (s.load s.cursor 2) ∧ 1 = fromBytes s.ctrl.bo (s.load (s.cursor + 2) 2) ∧
       ¬(2 = 0 ∧ 1 = 0) ∧ s.cursor + 4 + ceil4 1 ≤ s.limit ∧ ¬s.Duplicate 2) := by
  refine ⟨⟨by decide, by decide, by decide, by decide, by decide, by decide, by decide, ?_⟩,
    ⟨by decide, by decide, by decide, by decide, by decide, by decide, by decide, ?_⟩⟩
  · rintro ⟨i, d, h, _⟩
    have hn : ((listening 1 (opened .le recordSeven)).withArgs 0 8 0 0).lookup 7 = none := by decide
    rw [hn] at h
    cases h
  · rintro ⟨i, d, _, _, h⟩
    have hz : ((listening 0 (opened .le listA)).withArgs 0 20 0 0).optSeen = 0 := by decide
    rw [hz] at h
    simp at h

/-- The second occurrence, under FAIL and under the other three policies. -/
theorem witness_OptDecDuplicateFollowsThePolicy :
    ∀ p : Policy,
      let s := (listening 1 (under p true (opened .le listA))).withArgs 8 20 0 0
      s.ctrl.bov = true ∧ s.limit ≤ s.cfg.bufBytes ∧ s.cursor + 4 ≤ s.limit ∧
        2 = fromBytes s.ctrl.bo (s.load s.cursor 2) ∧ 1 = fromBytes s.ctrl.bo (s.load (s.cursor + 2) 2) ∧
        ¬(2 = 0 ∧ 1 = 0) ∧ s.cursor + 4 + ceil4 1 ≤ s.limit ∧ s.Duplicate 2 ∧ s.ctrl.policy = p := by
  intro p
  cases p <;>
    exact ⟨by decide, by decide, by decide, by decide, by decide, by decide, by decide,
      ⟨0, descA, by decide, by decide, by decide⟩, by decide⟩

/-- No section; a bad cursor; code 0, a code and a length of 17 bits; a record one byte too long. -/
theorem witness_OptEncErrors :
    State.reset.ctrl.bov = false ∧
    (let s := (opened .le []).withArgs 9 8 1 1; s.ctrl.bov = true ∧ s.cursor > s.limit) ∧
    (let s := (opened .le []).withArgs 16 16 0 1
     s.ctrl.bov = true ∧ s.limit ≤ s.cfg.bufBytes ∧ s.cursor ≤ s.limit ∧ s.arg2 = 0) ∧
    (let s := (opened .le []).withArgs 0 16 0x10000 1
     s.ctrl.bov = true ∧ s.limit ≤ s.cfg.bufBytes ∧ s.cursor ≤ s.limit ∧ 0xFFFF < s.arg2.toNat) ∧
    (let s := (opened .le []).withArgs 0 16 1 0x10000
     s.ctrl.bov = true ∧ s.limit ≤ s.cfg.bufBytes ∧ s.cursor ≤ s.limit ∧ 0xFFFF < s.arg3.toNat) ∧
    (let s := (opened .le []).withArgs 0 11 1 5
     s.ctrl.bov = true ∧ s.limit ≤ s.cfg.bufBytes ∧ s.cursor ≤ s.limit ∧ s.arg2 ≠ 0 ∧ s.arg2.toNat ≤ 0xFFFF ∧
       s.arg3.toNat ≤ 0xFFFF ∧ s.limit < s.cursor + 4 + ceil4 s.arg3.toNat) := by decide

/-- A new record that ends at the limit with the greatest code, and a duplicate under WARN. -/
theorem witness_OptEncWritesOneRecord :
    (let s := (listening 1 (opened .le [])).withArgs 0 4 0xFFFF 0
     s.ctrl.bov = true ∧ s.limit ≤ s.cfg.bufBytes ∧ s.cursor + 4 + ceil4 s.arg3.toNat ≤ s.limit ∧
       s.arg2 ≠ 0 ∧ s.arg2.toNat ≤ 0xFFFF ∧ s.arg3.toNat ≤ 0xFFFF ∧ ¬s.Duplicate s.arg2.toNat ∧
       ¬(s.Duplicate s.arg2.toNat ∧ (s.ctrl.policy = .fail ∨ s.ctrl.policy = .fix))) ∧
    (let s := (listening 1 (under .warn false (opened .le listA))).withArgs 8 64 2 1
     s.ctrl.bov = true ∧ s.limit ≤ s.cfg.bufBytes ∧ s.cursor + 4 + ceil4 s.arg3.toNat ≤ s.limit ∧
       s.arg2 ≠ 0 ∧ s.arg2.toNat ≤ 0xFFFF ∧ s.arg3.toNat ≤ 0xFFFF ∧ s.Duplicate s.arg2.toNat ∧
       ¬(s.Duplicate s.arg2.toNat ∧ (s.ctrl.policy = .fail ∨ s.ctrl.policy = .fix))) := by
  refine ⟨?_, by decide, by decide, by decide, by decide, by decide, by decide,
    ⟨0, descA, by decide, by decide, by decide⟩, fun h => absurd h.2 (by decide)⟩
  have hd : ¬((listening 1 (opened .le [])).withArgs 0 4 0xFFFF 0).Duplicate 0xFFFF := by
    rintro ⟨i, d, h, _⟩
    have hn : ((listening 1 (opened .le [])).withArgs 0 4 0xFFFF 0).lookup 0xFFFF = none := by decide
    rw [hn] at h
    cases h
  exact ⟨by decide, by decide, by decide, by decide, by decide, by decide, hd, fun h => hd h.1⟩

theorem witness_OptEncDuplicateWritesNothing :
    ∀ p : Policy, p = .fail ∨ p = .fix →
      let s := (listening 1 (under p false (opened .le listA))).withArgs 8 16 2 1
      s.ctrl.bov = true ∧ s.limit ≤ s.cfg.bufBytes ∧ s.cursor + 4 + ceil4 s.arg3.toNat ≤ s.limit ∧
        s.arg2 ≠ 0 ∧ s.arg2.toNat ≤ 0xFFFF ∧ s.arg3.toNat ≤ 0xFFFF ∧ s.Duplicate s.arg2.toNat ∧ s.ctrl.policy = p := by
  rintro p (rfl | rfl) <;>
    exact ⟨by decide, by decide, by decide, by decide, by decide, by decide,
      ⟨0, descA, by decide, by decide, by decide⟩, by decide⟩

theorem witness_OptEndWritesTheTerminator :
    (let s := State.reset.withArgs 1 4 0 0; s.cursor + 4 > s.limit) ∧
    (let s := State.reset.withArgs 0 4 0 0; s.limit ≤ s.cfg.bufBytes ∧ s.cursor + 4 ≤ s.limit) := by decide

/-- A list with a non-multiple option once and an unknown code twice, filling the space below the limit. -/
theorem witness_OptionListsRoundTrip :
    let s := listening 0xFFFFFFFF (opened .be [])
    s.cfg.Legal ∧ s.ctrl.bov = true ∧ 20 ≤ s.cfg.bufBytes ∧ 0 + recordsBytes [(2, 3), (9, 0), (9, 0)] + 4 ≤ 20 ∧
      (∀ r ∈ [(2, 3), (9, 0), (9, 0)], 1 ≤ r.1 ∧ r.1 ≤ 0xFFFF ∧ r.2 ≤ 0xFFFF) ∧
      [(2, 3), (9, 0), (9, 0)].Pairwise (fun r r' => r.1 = r'.1 → ∀ i d, s.lookup r.1 = some (i, d) → d.mult = true) := by
  refine ⟨by decide, by decide, by decide, by decide, by decide, ?_⟩
  have h9 : ∀ i d, (listening 0xFFFFFFFF (opened .be [])).lookup 9 = some (i, d) → d.mult = true := by
    intro i d h
    have hn : (listening 0xFFFFFFFF (opened .be [])).lookup 9 = none := by decide
    rw [hn] at h
    cases h
  simpa using h9

/-- No section; a bad cursor; a type of 33 bits and T = 2^32; T one byte too long (V-FRM-6); a frame that ends at the limit. -/
theorem witness_FrameEncWritesOneFrame :
    State.reset.ctrl.bov = false ∧
    (let s := (opened .le []).withArgs 9 8 1 1; s.ctrl.bov = true ∧ s.cursor > s.limit) ∧
    (let s := (opened .le []).withArgs 0 64 0x100000000 0
     s.ctrl.bov = true ∧ s.limit ≤ s.cfg.bufBytes ∧ s.cursor ≤ s.limit ∧ 0xFFFFFFFF < s.arg2.toNat) ∧
    (let s := (opened .le []).withArgs 0 65536 1 0xFFFFFFF4
     s.ctrl.bov = true ∧ s.limit ≤ s.cfg.bufBytes ∧ s.cursor ≤ s.limit ∧ 0xFFFFFFFF < 12 + ceil4 s.arg3.toNat) ∧
    (let s := (opened .le []).withArgs 0 15 1 1
     s.ctrl.bov = true ∧ s.limit ≤ s.cfg.bufBytes ∧ s.cursor ≤ s.limit ∧ s.arg2.toNat ≤ 0xFFFFFFFF ∧
       12 + ceil4 s.arg3.toNat ≤ 0xFFFFFFFF ∧ s.limit < s.cursor + (12 + ceil4 s.arg3.toNat)) ∧
    (let s := (opened .be []).withArgs 0 16 0xFFFFFFFF 1
     s.ctrl.bov = true ∧ s.limit ≤ s.cfg.bufBytes ∧ s.arg2.toNat ≤ 0xFFFFFFFF ∧ 12 + ceil4 s.arg3.toNat ≤ 0xFFFFFFFF ∧
       s.cursor + (12 + ceil4 s.arg3.toNat) ≤ s.limit) := by decide

theorem witness_ByteOrderIsDetectedFromTheMagic : ([0x4D, 0x3C, 0x2B, 0x1A] : List Byte).length = 4 := by decide

/-- A bad cursor; the end of the stream; seven bytes; V-FRM-16; a header whose magic does not fit, and one of another magic. -/
theorem witness_FrameDecEndsAndHeaderErrors :
    (let s := (opened .le []).withArgs 13 12 0 0; s.cursor > s.limit) ∧
    (let s := (opened .le []).withArgs 12 12 0 0; s.limit ≤ s.cfg.bufBytes ∧ s.cursor = s.limit) ∧
    (let s := (opened .le []).withArgs 0 7 0 0
     s.limit ≤ s.cfg.bufBytes ∧ s.cursor < s.limit ∧ s.limit < s.cursor + 8) ∧
    (let s := (closed frameSix).withArgs 0 8 0 0
     s.limit ≤ s.cfg.bufBytes ∧ s.cursor + 8 ≤ s.limit ∧ s.load s.cursor 4 ≠ [0x0A, 0x0D, 0x0D, 0x0A] ∧ s.ctrl.bov = false) ∧
    (let s := (closed headerBE).withArgs 0 11 0 0
     s.limit ≤ s.cfg.bufBytes ∧ s.cursor + 8 ≤ s.limit ∧ s.load s.cursor 4 = [0x0A, 0x0D, 0x0D, 0x0A] ∧
       s.limit < s.cursor + 12) ∧
    (let s := (closed [0x0A, 0x0D, 0x0D, 0x0A, 0x1C, 0, 0, 0, 0x4D, 0x3C, 0x2B, 0x1B]).withArgs 0 12 0 0
     s.limit ≤ s.cfg.bufBytes ∧ s.cursor + 8 ≤ s.limit ∧ s.load s.cursor 4 = [0x0A, 0x0D, 0x0D, 0x0A] ∧
       s.cursor + 12 ≤ s.limit ∧ s.load (s.cursor + 8) 4 ≠ [0x4D, 0x3C, 0x2B, 0x1A] ∧
       s.load (s.cursor + 8) 4 ≠ [0x1A, 0x2B, 0x3C, 0x4D]) := by decide

/-- T = 11; T = 12 cut off one byte early; another trailer; a frame that ends at the limit. -/
theorem witness_FrameDecDecodesAFrame :
    let ok := fun (s : State) (total off : Nat) =>
      s.limit ≤ s.cfg.bufBytes ∧ s.cursor + 8 ≤ s.limit ∧ s.load s.cursor 4 ≠ [0x0A, 0x0D, 0x0D, 0x0A] ∧ s.ctrl.bov = true ∧
        total = fromBytes s.ctrl.bo (s.load (s.cursor + 4) 4) ∧ off = 8 + ceil4 (total - 12)
    (let s := (opened .le [6, 0, 0, 0, 11, 0, 0, 0]).withArgs 0 64 0 0; ok s 11 8 ∧ 11 < 12) ∧
    (let s := (opened .le frameSix).withArgs 0 11 0 0; ok s 12 8 ∧ 12 ≤ 12 ∧ s.limit < s.cursor + 8 + 4) ∧
    (let s := (opened .le [6, 0, 0, 0, 12, 0, 0, 0, 16, 0, 0, 0]).withArgs 0 12 0 0
     ok s 12 8 ∧ 12 ≤ 12 ∧ s.cursor + 8 + 4 ≤ s.limit ∧ fromBytes s.ctrl.bo (s.load (s.cursor + 8) 4) ≠ 12) ∧
    (let s := (opened .le frameSix).withArgs 0 12 0 0
     ok s 12 8 ∧ 12 ≤ 12 ∧ s.cursor + 8 + 4 ≤ s.limit ∧ fromBytes s.ctrl.bo (s.load (s.cursor + 8) 4) = 12) := by decide

/-- T = 15; T = 28 cut off one byte early; another trailer; a Section Header that ends at the limit. -/
theorem witness_FrameDecOpensASection :
    let ok := fun (s : State) (ord : ByteOrder) (total off : Nat) =>
      s.limit ≤ s.cfg.bufBytes ∧ s.cursor + 12 ≤ s.limit ∧ s.load s.cursor 4 = [0x0A, 0x0D, 0x0D, 0x0A] ∧
        s.load (s.cursor + 8) 4 = (if ord = .le then [0x4D, 0x3C, 0x2B, 0x1A] else [0x1A, 0x2B, 0x3C, 0x4D]) ∧
        total = fromBytes ord (s.load (s.cursor + 4) 4) ∧ off = 8 + ceil4 (total - 12)
    (let s := (closed [0x0A, 0x0D, 0x0D, 0x0A, 15, 0, 0, 0, 0x4D, 0x3C, 0x2B, 0x1A]).withArgs 0 64 0 0
     ok s .le 15 12 ∧ 15 < 16) ∧
    (let s := (closed headerBE).withArgs 0 27 0 0; ok s .be 28 24 ∧ 16 ≤ 28 ∧ s.limit < s.cursor + 24 + 4) ∧
    (let s := (closed [0x0A, 0x0D, 0x0D, 0x0A, 16, 0, 0, 0, 0x4D, 0x3C, 0x2B, 0x1A, 17, 0, 0, 0]).withArgs 0 16 0 0
     ok s .le 16 12 ∧ 16 ≤ 16 ∧ s.cursor + 12 + 4 ≤ s.limit ∧ fromBytes .le (s.load (s.cursor + 12) 4) ≠ 16) ∧
    (let s := (closed headerBE).withArgs 0 28 0 0
     ok s .be 28 24 ∧ 16 ≤ 28 ∧ s.cursor + 24 + 4 ≤ s.limit ∧ fromBytes .be (s.load (s.cursor + 24) 4) = 28) := by decide

/-- A frame of another type, and a Section Header of the least body with its magic in place. -/
theorem witness_FramesRoundTrip :
    (let s := (opened .le []).withArgs 0 16 6 1
     ∃ t, s.cfg.Legal ∧ exec .frameEnc s = .next t ∧ t.status.errcode = .ok ∧ s.cursor + 12 + ceil4 s.arg3.toNat ≤ 16 ∧
       16 ≤ s.cfg.bufBytes ∧ s.arg2 ≠ 0x0A0D0D0A) ∧
    (let s := (opened .be [0, 0, 0, 0, 0, 0, 0, 0, 0x1A, 0x2B, 0x3C, 0x4D]).withArgs 0 16 0x0A0D0D0A 4
     ∃ t, s.cfg.Legal ∧ exec .frameEnc s = .next t ∧ t.status.errcode = .ok ∧ s.cursor + 12 + ceil4 s.arg3.toNat ≤ 16 ∧
       16 ≤ s.cfg.bufBytes ∧ s.arg2 = 0x0A0D0D0A ∧ 4 ≤ s.arg3.toNat ∧
       s.load (s.cursor + 8) 4 = toBytes 0x1A2B3C4D 4 s.ctrl.bo) :=
  ⟨⟨_, by decide, rfl, by decide, by decide, by decide, by decide⟩,
    ⟨_, by decide, rfl, by decide, by decide, by decide, by decide, by decide, by decide⟩⟩

theorem witness_ResetsSetEveryRegister :
    (configured 1 2).hardReset = (configured 1 2).hardReset ∨ (configured 1 2).hardReset = (configured 1 2).softReset ∨
      (configured 1 2).hardReset = State.reset := .inl rfl

theorem witness_SoftResetIsAlwaysHonoured : (0x8000000000000000 : Word).getLsbD 63 = true := by decide

/-- A register, the last byte of the window's first word, and STATUS, while a command is latched; a CTRL write without SRST. -/
theorem witness_WritesWhileBusyAreDropped :
    (0x8000000000000000 : Word).getLsbD 63 = true ∧
    (State.reset.latch 0).status.busy = true ∧
    target State.reset.cfg 0x008 .b8 = .register .ctrl ∧ (Reg.ctrl ≠ .status) ∧
    ¬(Reg.ctrl = .ctrl ∧ (0x7FFFFFFFFFFFFFFF : Word).getLsbD 63 = true) ∧
    target State.reset.cfg 0x10007 .b1 = .window 7 ∧ target State.reset.cfg 0x010 .b8 = .register .status := by decide

theorem witness_HostReadsHaveNoSideEffect :
    (∃ t, hostRead 0x10000 .b8 State.reset = .next t) ∧ State.reset.status.busy = false ∧
    ∃ t, hostRead 0x050 .b8 (State.reset.latch 0) = .next t := ⟨⟨_, rfl⟩, by decide, ⟨_, rfl⟩⟩

/-- The first and the last stable register of the map, the last entries of both files, and both ends of every reserved range. -/
theorem witness_ReadsWhileBusyOfStableRegisters :
    (State.reset.latch 0).status.busy = true ∧
    (∀ p ∈ [(0x000, Reg.id), (0x070, .optKind)], p ∈ registerMap ∧
      p.2 ∉ [Reg.res0, .res1, .res2, .res3, .info, .optSeen, .fwValue, .fwCfg]) ∧ 31 < 32 ∧ 15 < 16 ∧
    ∀ off ∈ [0x090, 0x0F8, 0x280, 0xFFF8, 0x10000 + (State.reset.latch 0).cfg.bufBytes],
      (off % 8 = 0 ∧ ((0x090 ≤ off ∧ off < 0x100) ∨ (0x280 ≤ off ∧ off < 0x10000))) ∨
        0x10000 + (State.reset.latch 0).cfg.bufBytes ≤ off := by decide

/-- The last register offset in a narrow width and unaligned; the first window offset; an aligned register. -/
theorem witness_RegisterAccessesAreEightBytesAligned :
    (0xFFF8 < 0x10000 ∧ ¬(AccessWidth.b4 = .b8 ∧ 0xFFF8 % 8 = 0)) ∧ (0xFFFF < 0x10000 ∧ ¬(AccessWidth.b8 = .b8 ∧ 0xFFFF % 8 = 0)) ∧
    (0x10000 ≤ 0x10000) ∧ (AccessWidth.b8 = .b8 ∧ 0xFFF8 % 8 = 0) := by decide

/-- An access that straddles the end of BUF. -/
theorem witness_WindowAccessesAreLittleEndian :
    State.reset.status.busy = false ∧ 3 < AccessWidth.b8.bytes ∧ 65532 + 3 < State.reset.cfg.bufBytes ∧
      State.reset.cfg.bufBytes ≤ 65532 + 4 := by decide

/-- The first and last offset of every range. -/
theorem witness_ReservedAndReadOnlyIgnoreWrites :
    State.reset.status.busy = false ∧
    (0x050 % 8 = 0 ∧ 0x050 ≤ 0x050 ∧ 0x050 ≤ 0x068) ∧ (0x068 % 8 = 0 ∧ 0x050 ≤ 0x068 ∧ 0x068 ≤ 0x068) ∧
    (0x090 % 8 = 0 ∧ 0x090 ≤ 0x090 ∧ 0x090 < 0x100) ∧ (0x0F8 % 8 = 0 ∧ 0x090 ≤ 0x0F8 ∧ 0x0F8 < 0x100) ∧
    (0x280 % 8 = 0 ∧ 0x280 ≤ 0x280 ∧ 0x280 < 0x10000) ∧ (0xFFF8 % 8 = 0 ∧ 0x280 ≤ 0xFFF8 ∧ 0xFFF8 < 0x10000) ∧
    0x10000 + State.reset.cfg.bufBytes ≤ 0x20000 := by decide

theorem witness_RegisterWritesReadBack :
    State.reset.status.busy = false ∧ (0x7FFFFFFFFFFFFFFF : Word).getLsbD 63 = false ∧ 31 < 32 ∧ 15 < 16 ∧ (30 ≠ 31) := by decide

theorem witness_StatusIsWriteOneToClear : State.reset.status.busy = false := by decide

/-- The first and the last register of the map, and both ends of both register files. -/
theorem witness_HostReadsDeliverTheRegisterAtTheOffset :
    State.reset.status.busy = false ∧ (0x000, Reg.id) ∈ registerMap ∧ (0x088, Reg.fwCfg) ∈ registerMap ∧
      (0 < 32 ∧ 31 < 32) ∧ (0 < 16 ∧ 15 < 16) := by decide

theorem witness_IrqFollowsStatusAndEnables :
    (let s := { State.reset with
        ctrl := { Ctrl.reset with ieWarn := true }, status := { Status.reset with warn := true } }
     s.status.busy = false ∧ s.irq = true) := by decide

/-- A state with bytes written and a command latched meets the invariant and steps. -/
theorem witness_EveryStepKeepsTheInvariant :
    (((opened .le [0x80, 0x81]).withArgs 0 2 0 0).latch 0x101).Inv ∧
    ∃ t, step (((opened .le [0x80, 0x81]).withArgs 0 2 0 0).latch 0x101) = .next t :=
  ⟨⟨by decide, ⟨by decide, by decide⟩, fun h => absurd h (by decide), fun h => absurd rfl h⟩, _, rfl⟩

/-- A host write of CTRL, a hard reset, and a Section Header. -/
theorem witness_OnlyThreeEventsChangeTheByteOrder :
    (∃ t, step { State.reset with turns := [.write 0x008 .b8 0xF] } = .next t ∧ t.ctrl.bo ≠ State.reset.ctrl.bo) ∧
    (∃ t, step { opened .be [] with turns := [.hardReset] } = .next t ∧ t.ctrl.bov ≠ (opened .be []).ctrl.bov) ∧
    ∃ t, step (((closed headerBE).withArgs 0 28 0 0).latch 0x31) = .next t ∧ t.ctrl.bo ≠ (closed headerBE).ctrl.bo :=
  ⟨⟨_, rfl, by decide⟩, ⟨_, rfl, by decide⟩, ⟨_, rfl, by decide⟩⟩

/-- OPT_BEGIN, a host write of OPT_SEEN, a soft reset and a hard reset clear bit 31. -/
theorem witness_SeenBitsPersist :
    let s := { State.reset with optSeen := 0x80000000 }
    s.optSeen.getLsbD 31 = true ∧
    (∃ t, step (s.latch 0x20) = .next t ∧ t.optSeen.getLsbD 31 = false) ∧
    (∃ t, step { s with turns := [.write 0x078 .b8 0] } = .next t ∧ t.optSeen.getLsbD 31 = false) ∧
    (∃ t, step { s with turns := [.write 0x008 .b8 0x8000000000000000] } = .next t ∧ t.optSeen.getLsbD 31 = false) ∧
    ∃ t, step { s with turns := [.hardReset] } = .next t ∧ t.optSeen.getLsbD 31 = false :=
  ⟨by decide, ⟨_, rfl, by decide⟩, ⟨_, rfl, by decide⟩, ⟨_, rfl, by decide⟩, ⟨_, rfl, by decide⟩⟩

end Sys2Proof.Tests
end

namespace Sys2Proof.Machine

/-! ### FromBytes as a positional sum (R17) -/

/-- The little-endian reading is the sum of the bytes, each at the weight of its index. -/
theorem fromBytesLE_eq_sum (bs : List Byte) :
    fromBytesLE bs = ∑ i ∈ Finset.range bs.length, ((bs[i]?).getD 0).toNat * 256 ^ i := by
  induction bs with
  | nil => rfl
  | cons b bs ih =>
    rw [fromBytesLE, ih, List.length_cons, Finset.sum_range_succ', Finset.mul_sum, Nat.add_comm]
    congr 1
    · refine Finset.sum_congr rfl fun i _ => ?_
      rw [List.getElem?_cons_succ, pow_succ]
      ring
    · simp

/-- Settles O16: little-endian by induction on the bytes, big-endian by reading the reversed bytes and reflecting the sum. -/
theorem bytesSpellTheirPositionalSum : Obligations.BytesSpellTheirPositionalSum := by
  unfold Obligations.BytesSpellTheirPositionalSum
  intro bs
  refine ⟨fromBytesLE_eq_sum bs, ?_⟩
  rw [fromBytes, fromBytesLE_eq_sum, List.length_reverse, ← Finset.sum_range_reflect]
  refine Finset.sum_congr rfl fun i hi => ?_
  have hi : i < bs.length := Finset.mem_range.1 hi
  rw [List.getElem?_reverse (by omega), show bs.length - 1 - (bs.length - 1 - i) = i by omega]

/-! ### Commands as bodies -/

/-- The pseudocode of each command: what `exec` runs between the common start and the completion (R100, R212). -/
def commandBody : Instr → State → CmdEnd
  | .nop => .commit
  | .intDec width signed => intDecBody width signed
  | .intEnc width _ => intEncBody width
  | .flagConfig => flagConfigBody
  | .flagGet fidx => flagGetBody fidx
  | .flagSet fidx => flagSetBody fidx
  | .optBegin => fun s => .commit { s with optSeen := 0 }
  | .optDec => optDecBody
  | .optEnc => optEncBody
  | .optEnd => optEndBody
  | .frameEnc => frameEncBody
  | .frameDec => frameDecBody

/-- Every command is the completion of its body. -/
theorem exec_eq (i : Instr) (s : State) : exec i s = .next (complete s.start (commandBody i s.start)) := by
  cases i <;> rfl

/-- An answered command is the completion of its body. -/
theorem eq_complete_of_exec {i : Instr} {s t : State} (h : exec i s = .next t) :
    t = complete s.start (commandBody i s.start) := by
  rw [exec_eq] at h
  exact (Host.Outcome.next.inj h).symm

/-! ### What a command may store -/

/-- `m'` comes from `m` by writes of bytes between `lo` and `hi`. -/
inductive Memory.Stored (lo hi : Nat) (m : Memory) : Memory → Prop where
  | refl : Memory.Stored lo hi m m
  | putAll {m' : Memory} {a : Nat} {bs : List Byte} (h : Memory.Stored lo hi m m') (ha : lo ≤ a)
      (hb : a + bs.length ≤ hi) : Memory.Stored lo hi m (Memory.putAll m' a bs)

/-- Writes between `lo` and `hi` leave every other address as it was. -/
theorem Memory.Stored.get?_outside {lo hi : Nat} {m m' : Memory} (h : Memory.Stored lo hi m m') {a : Nat}
    (ha : a < lo ∨ hi ≤ a) : Memory.get? m' a = Memory.get? m a := by
  induction h with
  | refl => rfl
  | putAll _ _ _ ih => rw [Memory.get?_putAll, if_neg (by omega), ih]

/-- Writes keep the canonical form. -/
theorem Memory.Stored.wf {lo hi : Nat} {m m' : Memory} (h : Memory.Stored lo hi m m') (hm : m.wf) : m'.wf := by
  induction h with
  | refl => exact hm
  | putAll _ _ _ ih => exact Memory.wf_putAll ih _ _

/-- Writes keep a memory below a bound that no address between `lo` and `hi` passes. -/
theorem Memory.Stored.lt_bound {lo hi n : Nat} {m m' : Memory} (h : Memory.Stored lo hi m m') (hn : hi ≤ max lo n)
    (hm : ∀ p ∈ m, p.1 < n) : ∀ p ∈ m', p.1 < n := by
  induction h with
  | refl => exact hm
  | putAll _ _ _ ih =>
    intro p hp
    rcases Memory.mem_putAll hp with h | h
    · omega
    · exact ih p h

/-- The end of the addresses a command may store to, from the cursor on: the limit, inside BUF, for the four commands that
store; the cursor itself, so none, for the others. -/
def storeEnd : Instr → State → Nat
  | .intEnc _ _, s => min s.limit s.cfg.bufBytes
  | .optEnc, s => min s.limit s.cfg.bufBytes
  | .optEnd, s => min s.limit s.cfg.bufBytes
  | .frameEnc, s => min s.limit s.cfg.bufBytes
  | _, s => s.cursor

/-- What no command changes, from `s` to `u`: the parameters, the draw of BUF, BUF outside cursor .. hi - 1, and that a VALID
schema is one FLAG_CONFIG accepts. -/
structure State.BoundedEffect (hi : Nat) (s u : State) : Prop where
  cfg     : u.cfg = s.cfg
  bufDraw : u.bufDraw = s.bufDraw
  buf     : Memory.Stored s.cursor hi s.buf u.buf
  schema  : s.SchemaInv → u.SchemaInv

/-- The schema's validity depends on FW_CFG and FW_FIELD alone. -/
theorem State.SchemaInv.congr {s t : State} (h : s.SchemaInv) (hc : t.fwCfg = s.fwCfg) (hf : t.fwField = s.fwField) :
    t.SchemaInv := by
  simpa only [State.SchemaInv, State.nf, State.schema, State.offsetOf, State.field, hc, hf] using h

theorem State.schemaInv_of_not_valid {s : State} (h : s.fwCfg.valid = false) : s.SchemaInv :=
  fun hv => absurd hv (by simp [h])

/-- A commit that leaves the schema alone. -/
theorem State.BoundedEffect.of_fields {hi : Nat} {s u : State} (hb : Memory.Stored s.cursor hi s.buf u.buf)
    (hcfg : u.cfg = s.cfg := by rfl) (hd : u.bufDraw = s.bufDraw := by rfl)
    (hc : u.fwCfg = s.fwCfg := by rfl) (hf : u.fwField = s.fwField := by rfl) : State.BoundedEffect hi s u :=
  ⟨hcfg, hd, hb, fun h => h.congr hc hf⟩

theorem intDecBody_boundedEffect {width : IntWidth} {signed : Bool} {s u : State}
    (h : intDecBody width signed s = .commit u) : State.BoundedEffect s.cursor s u := by
  rcases intDecBody_cases width signed s with ⟨_, e⟩ | ⟨_, _, e⟩ | ⟨_, _, _, e⟩ <;> cases e.symm.trans h
  exact .of_fields .refl

theorem intEncBody_boundedEffect {width : IntWidth} {s u : State} (h : intEncBody width s = .commit u) :
    State.BoundedEffect (min s.limit s.cfg.bufBytes) s u := by
  rcases intEncBody_cases width s with ⟨_, e⟩ | ⟨_, _, e⟩ | ⟨_, _, _, e⟩ <;> cases e.symm.trans h
  exact .of_fields (.putAll .refl le_rfl (by rw [toBytes_length]; omega))

theorem flagGetBody_boundedEffect {fidx : Nat} {s u : State} (h : flagGetBody fidx s = .commit u) :
    State.BoundedEffect s.cursor s u := by
  rcases flagGetBody_cases fidx s with ⟨_, e⟩ | ⟨_, _, e⟩ <;> cases e.symm.trans h
  exact .of_fields .refl

theorem flagSetBody_boundedEffect {fidx : Nat} {s u : State} (h : flagSetBody fidx s = .commit u) :
    State.BoundedEffect s.cursor s u := by
  rcases flagSetBody_cases fidx s with ⟨_, e⟩ | ⟨_, _, e⟩ <;> cases e.symm.trans h
  exact .of_fields .refl

theorem optEndBody_boundedEffect {s u : State} (h : optEndBody s = .commit u) :
    State.BoundedEffect (min s.limit s.cfg.bufBytes) s u := by
  rcases optEndBody_cases s with ⟨_, e⟩ | ⟨_, _, e⟩ <;> cases e.symm.trans h
  exact .of_fields (.putAll .refl le_rfl (by rw [zeros_length]; omega))

theorem frameDecBody_boundedEffect {s u : State} (h : frameDecBody s = .commit u) : State.BoundedEffect s.cursor s u := by
  rcases frameDecBody_frame s with ⟨_, _, _, e⟩ | ⟨_, e, frame, _⟩ <;> cases e.symm.trans h
  rw [frame]
  exact .of_fields .refl

/-- A record's writes change BUF alone. (By `rfl` the nested updates would be compared field by field at every level.) -/
theorem State.storeRecord_frame (s : State) (ord : ByteOrder) (c code len : Nat) :
    s.storeRecord ord c code len = { s with buf := (s.storeRecord ord c code len).buf } := by
  simp only [State.storeRecord, State.store]

/-- The three writes of a record lie between its cursor and its end (R140). -/
theorem State.storeRecord_stored (s : State) (ord : ByteOrder) {c code len hi : Nat} (h : c + recordBytes len ≤ hi) :
    Memory.Stored c hi s.buf (s.storeRecord ord c code len).buf := by
  have hp := add_pad4 len
  have hr : recordBytes len = 4 + ceil4 len := rfl
  exact .putAll (.putAll (.putAll .refl le_rfl (by rw [toBytes_length]; omega)) (by omega)
    (by rw [toBytes_length]; omega)) (by omega) (by rw [zeros_length]; omega)

/-- A frame's writes change BUF alone. -/
theorem State.storeFrame_frame (s : State) (ord : ByteOrder) (base type len : Nat) :
    s.storeFrame ord base type len = { s with buf := (s.storeFrame ord base type len).buf } := by
  simp only [State.storeFrame, State.store]

/-- The four writes of a frame lie between its base and its end (R170). -/
theorem State.storeFrame_stored (s : State) (ord : ByteOrder) {base type len hi : Nat} (h : base + totalLength len ≤ hi) :
    Memory.Stored base hi s.buf (s.storeFrame ord base type len).buf := by
  have hp := add_pad4 len
  have ht : totalLength len = 12 + ceil4 len := rfl
  exact .putAll (.putAll (.putAll (.putAll .refl le_rfl (by rw [toBytes_length]; omega)) (by omega)
    (by rw [toBytes_length]; omega)) (by omega) (by rw [zeros_length]; omega)) (by omega) (by rw [toBytes_length]; omega)

theorem frameEncBody_boundedEffect {s u : State} (h : frameEncBody s = .commit u) :
    State.BoundedEffect (min s.limit s.cfg.bufBytes) s u := by
  rcases frameEncBody_cases s with ⟨_, e⟩ | ⟨_, _, e⟩ | ⟨_, _, _, e⟩ | ⟨_, _, _, _, e⟩ | ⟨_, hlim, _, _, hend, e⟩ <;>
    cases e.symm.trans h
  rw [State.storeFrame_frame]
  exact .of_fields (s.storeFrame_stored _ (le_min hend (hend.trans hlim)))

theorem optDecBody_boundedEffect {s u : State} (h : optDecBody s = .commit u) : State.BoundedEffect s.cursor s u := by
  rcases optDecBody_cases s with ⟨_, e⟩ | ⟨_, _, e⟩ | ⟨_, _, _, e⟩ | ⟨_, _, _, _, e⟩ | ⟨_, _, _, _, _, e⟩ |
    ⟨_, _, _, _, _, ⟨t, hm, e⟩ | ⟨_, e⟩⟩ <;> cases e.symm.trans h
  · exact .of_fields .refl
  · exact .of_fields .refl
  · rw [multiplicity_frame hm]
    exact .of_fields .refl

theorem optEncBody_boundedEffect {s u : State} (h : optEncBody s = .commit u) :
    State.BoundedEffect (min s.limit s.cfg.bufBytes) s u := by
  rcases optEncBody_cases s with ⟨_, e⟩ | ⟨_, _, e⟩ | ⟨_, _, _, e⟩ | ⟨_, _, _, _, e⟩ |
    ⟨_, _, _, _, ⟨t, hm, e⟩ | ⟨t, hm, e⟩ | ⟨_, e⟩⟩ <;> cases e.symm.trans h
  · rw [multiplicity_frame (.inl hm), State.storeRecord_frame]
    exact .of_fields (State.storeRecord_stored _ _ (by omega))
  · rw [multiplicity_frame (.inr hm)]
    exact .of_fields .refl

/-! ### The schema under FLAG_CONFIG (R120, R121) -/

/-- The state FLAG_CONFIG commits for an accepted schema (R121). -/
def State.configured (s : State) : State :=
  { s with
    fwField := s.fwField.mapIdx (fun j f => if j < s.nf then { f with offset := BitVec.ofNat 6 (s.offsetOf j) } else f)
    fwCfg := { s.fwCfg with valid := true } }

theorem State.field_eq_getElem {s : State} {j : Nat} (h : j < 16) : s.field j = s.fwField[j] := by
  simp [State.field, h]

/-- OFFSET_(j+1) = OFFSET_j + WIDTH_j (R120). -/
theorem State.offsetOf_succ (s : State) {j : Nat} (h : j < 16) :
    s.offsetOf (j + 1) = s.offsetOf j + (s.field j).width.toNat := by
  rw [State.field_eq_getElem h, State.offsetOf, List.take_succ_eq_append_getElem (by simpa using h)]
  simp [State.offsetOf]

/-- Later sub-fields have higher offsets (R120). -/
theorem State.offsetOf_mono (s : State) {j k : Nat} (h : j ≤ k) : s.offsetOf j ≤ s.offsetOf k :=
  ((List.take_sublist_take_left h).map _).sum_le_sum fun _ _ => Nat.zero_le _

/-- The schema's sub-fields by their index. -/
theorem State.mem_schema {s : State} {f : FwField} : f ∈ s.schema ↔ ∃ j, j < s.nf ∧ j < 16 ∧ s.field j = f := by
  rw [State.schema, List.mem_take_iff_getElem]
  constructor
  · rintro ⟨j, hj, rfl⟩
    have hj : j < s.nf ∧ j < 16 := by simpa using hj
    exact ⟨j, hj.1, hj.2, by rw [State.field_eq_getElem hj.2]; simp⟩
  · rintro ⟨j, hn, h16, rfl⟩
    exact ⟨j, by simp [hn, h16], by rw [State.field_eq_getElem h16]; simp⟩

/-- A legal sub-field is at least one bit wide (R121). -/
theorem FwField.one_le_width {f : FwField} (h : f.legal = true) : 1 ≤ f.width.toNat := by
  unfold FwField.legal at h
  split at h <;> simp at h <;> omega

/-- R121's checks do not look at OFFSET. -/
theorem FwField.legal_offset (f : FwField) (o : BitVec 6) : ({ f with offset := o } : FwField).legal = f.legal := rfl

/-- FLAG_CONFIG writes OFFSET of the schema's sub-fields, and no other field of the register file. -/
theorem State.field_configured (s : State) {j : Nat} (h : j < 16) :
    s.configured.field j =
      if j < s.nf then { s.field j with offset := BitVec.ofNat 6 (s.offsetOf j) } else s.field j := by
  rw [State.field_eq_getElem h, State.field_eq_getElem h]
  simp [State.configured]

@[simp] theorem State.nf_configured (s : State) : s.configured.nf = s.nf := rfl

/-- FLAG_CONFIG changes no width, so no offset. -/
@[simp] theorem State.offsetOf_configured (s : State) (j : Nat) : s.configured.offsetOf j = s.offsetOf j := by
  suffices h : s.configured.fwField.toList.map (fun f => f.width.toNat) = s.fwField.toList.map (fun f => f.width.toNat) by
    rw [State.offsetOf, List.map_take, h, ← List.map_take, ← State.offsetOf]
  refine List.ext_getElem (by simp) fun k _ _ => ?_
  simp only [State.configured, List.getElem_map, Vector.getElem_toList, Vector.getElem_mapIdx]
  split <;> rfl

/-- OFFSET holds the sum of the widths before it: below a schema of at most 64 bits it fits its six bits. -/
theorem State.offsetOf_lt {s : State} {j : Nat} (hj : j < s.nf) (h16 : s.nf ≤ 16)
    (hl : ∀ f ∈ s.schema, f.legal = true) (ht : s.offsetOf s.nf ≤ 64) : s.offsetOf j < 64 := by
  have hw := FwField.one_le_width (hl _ (State.mem_schema.2 ⟨j, hj, by omega, rfl⟩))
  have hs := s.offsetOf_succ (j := j) (by omega)
  have hm := s.offsetOf_mono (j := j + 1) hj
  omega

/-- A schema that passes R121's checks is a valid one once FLAG_CONFIG has written its offsets. -/
theorem State.schemaInv_configured {s : State} (h1 : 1 ≤ s.fwCfg.w.toNat) (h64 : s.fwCfg.w.toNat ≤ 64)
    (h16 : s.nf ≤ 16) (hl : ∀ f ∈ s.schema, f.legal = true) (ht : s.offsetOf s.nf ≤ s.fwCfg.w.toNat) :
    s.configured.SchemaInv := by
  intro _
  refine ⟨h1, h64, h16, ?_, ?_, ?_⟩
  · intro f hf
    obtain ⟨j, hn, hj, rfl⟩ := State.mem_schema.1 hf
    rw [State.nf_configured] at hn
    rw [s.field_configured hj, if_pos hn, FwField.legal_offset]
    exact hl _ (State.mem_schema.2 ⟨j, hn, hj, rfl⟩)
  · rwa [State.nf_configured, State.offsetOf_configured]
  · intro j (hj : j < s.nf)
    have hlt := State.offsetOf_lt hj h16 hl (ht.trans h64)
    rw [s.field_configured (by omega), if_pos hj, State.offsetOf_configured, BitVec.toNat_ofNat, Nat.mod_eq_of_lt hlt]

theorem flagConfigBody_boundedEffect {s u : State} (h : flagConfigBody s = .commit u) :
    State.BoundedEffect s.cursor s u := by
  rcases flagConfigBody_cases s with e | ⟨h1, h64, h16, hl, ht, e⟩ <;> cases e.symm.trans h
  exact ⟨rfl, rfl, .refl, fun _ => State.schemaInv_configured h1 h64 h16 hl ht⟩

/-! ### The effect of every command on BUF (R18) -/

/-- What every command's commit leaves alone. -/
theorem commandBody_boundedEffect {i : Instr} {s u : State} (h : commandBody i s = .commit u) :
    State.BoundedEffect (storeEnd i s) s u := by
  cases i with
  | nop => cases h; exact .of_fields .refl
  | intDec width signed => exact intDecBody_boundedEffect h
  | intEnc width signed => exact intEncBody_boundedEffect h
  | flagConfig => exact flagConfigBody_boundedEffect h
  | flagGet fidx => exact flagGetBody_boundedEffect h
  | flagSet fidx => exact flagSetBody_boundedEffect h
  | optBegin => cases h; exact .of_fields .refl
  | optDec => exact optDecBody_boundedEffect h
  | optEnc => exact optEncBody_boundedEffect h
  | optEnd => exact optEndBody_boundedEffect h
  | frameEnc => exact frameEncBody_boundedEffect h
  | frameDec => exact frameDecBody_boundedEffect h

@[simp] theorem storeEnd_start (i : Instr) (s : State) : storeEnd i s.start = storeEnd i s := by
  cases i <;> rfl

/-- What every command leaves alone, whether it commits or raises. -/
theorem exec_boundedEffect {i : Instr} {s t : State} (h : exec i s = .next t) :
    State.BoundedEffect (storeEnd i s) s t := by
  rw [eq_complete_of_exec h]
  rcases he : commandBody i s.start with u | ⟨e, _ | p⟩
  · obtain ⟨hcfg, hdraw, hbuf, hschema⟩ := commandBody_boundedEffect he
    rw [storeEnd_start] at hbuf
    exact ⟨hcfg, hdraw, hbuf, fun hs => (hschema (hs.congr rfl rfl)).congr rfl rfl⟩
  · exact .of_fields .refl
  · exact .of_fields .refl

/-- BUF outside the addresses a command may store to reads as before. -/
theorem State.BoundedEffect.byteAt_outside {hi : Nat} {s t : State} (h : State.BoundedEffect hi s t) {a : Nat}
    (ha : a < s.cursor ∨ hi ≤ a) : t.byteAt a = s.byteAt a := by
  rw [State.byteAt, State.byteAt, h.bufDraw, h.buf.get?_outside ha]

/-- What a command may store to lies below the limit and inside BUF, or is nothing. -/
theorem storeEnd_le (i : Instr) (s : State) : storeEnd i s ≤ max s.cursor (min s.limit s.cfg.bufBytes) := by
  cases i <;> simp [storeEnd]

/-- A command that is none of the four has no address to store to. -/
theorem storeEnd_eq_cursor {i : Instr} (s : State) (h : ∀ width signed, i ≠ .intEnc width signed) (he : i ≠ .optEnc)
    (ht : i ≠ .optEnd) (hf : i ≠ .frameEnc) : storeEnd i s = s.cursor := by
  cases i with
  | intEnc width signed => exact absurd rfl (h width signed)
  | optEnc => exact absurd rfl he
  | optEnd => exact absurd rfl ht
  | frameEnc => exact absurd rfl hf
  | _ => rfl

/-- Settles O15: every command's effect on BUF is bounded by its cursor and `storeEnd`. -/
theorem commandsWriteOnlyBetweenCursorAndLimit : Obligations.CommandsWriteOnlyBetweenCursorAndLimit := by
  unfold Obligations.CommandsWriteOnlyBetweenCursorAndLimit
  intro i s t h
  have effect := exec_boundedEffect h
  constructor
  · intro a ha
    have := storeEnd_le i s
    exact effect.byteAt_outside (by omega)
  · intro hi he ht hf a
    have := storeEnd_eq_cursor s hi he ht hf
    exact effect.byteAt_outside (by omega)

/-! ### The invariant (R16, R30, R37, R39) -/

/-- BUF keeps its form inside BUF under writes that end there. -/
theorem State.BufInv.stored {lo hi : Nat} {s t : State} (h : s.BufInv) (hb : Memory.Stored lo hi s.buf t.buf)
    (hcfg : t.cfg = s.cfg) (hhi : hi ≤ max lo s.cfg.bufBytes) : t.BufInv :=
  ⟨hb.wf h.1, fun p hp => hcfg ▸ hb.lt_bound hhi h.2 p hp⟩

/-- Where the parameters, BUF, INFO and ERRCODE stay, the invariant asks for the schema alone. -/
theorem State.Inv.of_schema {s t : State} (h : s.Inv) (hs : t.SchemaInv) (hcfg : t.cfg = s.cfg := by rfl)
    (hb : t.buf = s.buf := by rfl) (hi : t.info = s.info := by rfl)
    (he : t.status.errcode = s.status.errcode := by rfl) : t.Inv where
  config := hcfg ▸ h.config
  buf := by simpa only [State.BufInv, hcfg, hb] using h.buf
  schema := hs
  info := by simpa only [State.InfoInv, hi, he] using h.info

/-- The invariant looks at six fields only. -/
theorem State.Inv.congr {s t : State} (h : s.Inv) (hcfg : t.cfg = s.cfg := by rfl) (hb : t.buf = s.buf := by rfl)
    (hc : t.fwCfg = s.fwCfg := by rfl) (hf : t.fwField = s.fwField := by rfl) (hi : t.info = s.info := by rfl)
    (he : t.status.errcode = s.status.errcode := by rfl) : t.Inv :=
  h.of_schema (h.schema.congr hc hf) hcfg hb hi he

/-- A soft reset keeps BUF and clears the rest (R231). -/
theorem State.Inv.softReset {s : State} (h : s.Inv) : s.softReset.Inv :=
  ⟨h.config, h.buf, State.schemaInv_of_not_valid rfl, fun _ => rfl⟩

/-- A hard reset leaves no byte written (R230). -/
theorem State.Inv.hardReset {s : State} (h : s.Inv) : s.hardReset.Inv where
  config := h.config
  buf := ⟨List.Pairwise.nil, fun _ hp => absurd hp List.not_mem_nil⟩
  schema := State.schemaInv_of_not_valid rfl
  info := fun _ => rfl

/-- A host write of a register while idle keeps the invariant: one to the schema clears VALID (R37). -/
theorem State.Inv.writeReg {s : State} (h : s.Inv) (r : Reg) (v : Word) : (s.writeReg r v).Inv := by
  cases r with
  | ctrl =>
    change (if srst v = true then s.softReset else { s with ctrl := Ctrl.ofWord v }).Inv
    split
    · exact h.softReset
    · exact h.congr
  | fwCfg => exact h.of_schema (State.schemaInv_of_not_valid rfl)
  | fwField j => exact h.of_schema (State.schemaInv_of_not_valid rfl)
  | _ => exact h.congr

/-- A host write of a register while BUSY = 1 is dropped, clears STATUS bits or resets (R231, R236). -/
theorem State.Inv.writeRegBusy {s : State} (h : s.Inv) (r : Reg) (v : Word) : (s.writeRegBusy r v).Inv := by
  unfold State.writeRegBusy
  split
  · exact h.congr
  · split
    · exact h.softReset
    · exact h.congr

/-- A host write of the BUF window stores inside BUF: the bytes past BUF are dropped (R40). -/
theorem State.Inv.writeWindow {s : State} (h : s.Inv) (a : Nat) (width : AccessWidth) (v : Word) :
    (s.writeWindow a width v).Inv where
  config := h.config
  buf := by
    have hlen : ((hostBytes width v).take (s.cfg.bufBytes - a)).length ≤ s.cfg.bufBytes - a := List.length_take_le _ _
    exact h.buf.stored (.putAll .refl le_rfl le_rfl) rfl (by omega)
  schema := h.schema.congr rfl rfl
  info := h.info

theorem hostWrite_keeps_inv {addr : Nat} {width : AccessWidth} {v : Word} {s t : State} (h : s.Inv)
    (ht : hostWrite addr width v s = .next t) : t.Inv := by
  unfold hostWrite at ht
  split at ht
  · cases ht
  · cases ht
  · cases ht
    split
    · exact h.writeRegBusy _ _
    · exact h.writeReg _ _
  · cases ht
    split
    · exact h.congr
    · exact h.writeWindow _ _ _

theorem hostRead_keeps_inv {addr : Nat} {width : AccessWidth} {s t : State} (h : s.Inv)
    (ht : hostRead addr width s = .next t) : t.Inv := by
  unfold hostRead at ht
  split at ht <;> cases ht <;> exact h.congr

/-- A command leaves INFO = 0 whenever it ends with an error (R30, R211). -/
theorem complete_infoInv (s : State) (e : CmdEnd) : (complete s.start e).InfoInv := by
  rcases e with u | ⟨e, _ | p⟩
  · exact fun h => absurd rfl h
  · exact fun _ => rfl
  · exact fun _ => rfl

/-- A command keeps the invariant: its effect is bounded, and its end leaves INFO as R30 says. -/
theorem exec_keeps_inv {i : Instr} {s t : State} (h : s.Inv) (ht : exec i s = .next t) : t.Inv where
  config := (exec_boundedEffect ht).cfg ▸ h.config
  buf := by
    have := storeEnd_le i s
    exact h.buf.stored (exec_boundedEffect ht).buf (exec_boundedEffect ht).cfg (by omega)
  schema := (exec_boundedEffect ht).schema h.schema
  info := eq_complete_of_exec ht ▸ complete_infoInv _ _

theorem engineTurn_keeps_inv {s t : State} (h : s.Inv) (ht : engineTurn s = .next t) : t.Inv := by
  unfold engineTurn at ht
  split at ht
  · split at ht
    · exact exec_keeps_inv h ht
    · cases ht
      exact ⟨h.config, h.buf, h.schema.congr rfl rfl, fun _ => rfl⟩
  · cases ht
    exact h

theorem takeTurn_keeps_inv {turn : Turn} {s t : State} (h : s.Inv) (ht : takeTurn turn s = .next t) : t.Inv := by
  cases turn with
  | write addr width v => exact hostWrite_keeps_inv h ht
  | read addr width => exact hostRead_keeps_inv h ht
  | hardReset => cases ht; exact h.hardReset
  | engine => exact engineTurn_keeps_inv h ht

/-- Settles O55: each kind of turn keeps the invariant, and taking a turn off the list touches none of its fields. -/
theorem everyStepKeepsTheInvariant : Obligations.EveryStepKeepsTheInvariant := by
  unfold Obligations.EveryStepKeepsTheInvariant
  intro s t h ht
  unfold step at ht
  split at ht
  · exact engineTurn_keeps_inv h ht
  · exact takeTurn_keeps_inv h.congr ht

/-! ### Two runs that differ in BUF (R18) -/

/-- `s` with BUF's bytes replaced. -/
def State.withBuf (s : State) (m : Memory) (draw : Nat) : State := { s with buf := m, bufDraw := draw }

/-- BUF's bytes from `lo` up to `hi` stay the same when `s` takes `m` and `draw` for its BUF. -/
def State.Agrees (lo hi : Nat) (s : State) (m : Memory) (draw : Nat) : Prop :=
  ∀ a, lo ≤ a → a < hi → (s.withBuf m draw).byteAt a = s.byteAt a

/-- Two ends of a command that differ in BUF alone, and there not in the bytes from `lo` up to `hi`. -/
inductive CmdEnd.Alike (lo hi draw : Nat) : CmdEnd → CmdEnd → Prop where
  | raise (e : ErrorCode) (p : Option ProblemCode) : CmdEnd.Alike lo hi draw (.raise e p) (.raise e p)
  | commit (u : State) (m : Memory) (h : u.Agrees lo hi m draw) :
      CmdEnd.Alike lo hi draw (.commit u) (.commit (u.withBuf m draw))

/-- A check of the pseudocode that does not see the difference. -/
theorem CmdEnd.Alike.ite {lo hi draw : Nat} {p p' : Prop} [Decidable p] [Decidable p'] {a b a' b' : CmdEnd}
    (hp : p' ↔ p) (ha : p → CmdEnd.Alike lo hi draw a a') (hb : ¬p → CmdEnd.Alike lo hi draw b b') :
    CmdEnd.Alike lo hi draw (if p then a else b) (if p' then a' else b') := by
  by_cases h : p
  · rw [if_pos h, if_pos (hp.2 h)]
    exact ha h
  · rw [if_neg h, if_neg (fun h' => h (hp.1 h'))]
    exact hb h

/-- The check's verdict with BUF's bytes replaced in the staged state. -/
def Verdict.withBuf (v : Verdict) (m : Memory) (draw : Nat) : Verdict :=
  match v with
  | .accept t => .accept (t.withBuf m draw)
  | .discard t => .discard (t.withBuf m draw)
  | .policyFail => .policyFail

/-- The multiplicity check does not look at BUF (R142). -/
theorem multiplicity_withBuf (hit : Option (Nat × OptDesc)) (dir : Direction) (s : State) (m : Memory) (draw : Nat) :
    multiplicity hit dir (s.withBuf m draw) = (multiplicity hit dir s).withBuf m draw := by
  rcases hit with _ | ⟨i, d⟩
  · rfl
  · simp only [multiplicity, apply_ite (Verdict.withBuf · m draw)]
    rfl

theorem State.store_withBuf (s : State) (m : Memory) (draw a : Nat) (bs : List Byte) :
    (s.withBuf m draw).store a bs = (s.store a bs).withBuf (Memory.putAll m a bs) draw := rfl

section
variable {lo hi draw : Nat} {s : State} {m : Memory} (h : s.Agrees lo hi m draw)
include h

/-- Only BUF and its draw matter. -/
theorem State.Agrees.congr {u : State} (hb : u.buf = s.buf := by rfl) (hd : u.bufDraw = s.bufDraw := by rfl) :
    u.Agrees lo hi m draw :=
  fun a hlo hhi => (h a hlo hhi).trans (State.byteAt_congr hb hd a).symm

theorem State.Agrees.load {a n : Nat} (ha : lo ≤ a) (hn : a + n ≤ hi) : (s.withBuf m draw).load a n = s.load a n :=
  State.load_congr fun x hx hxn => h x (by omega) (by omega)

theorem State.Agrees.loadInt (ord : ByteOrder) {a n : Nat} (ha : lo ≤ a) (hn : a + n ≤ hi) :
    (s.withBuf m draw).loadInt ord a n = s.loadInt ord a n := by
  rw [State.loadInt, State.loadInt, h.load ha hn]

/-- The same bytes stored on both sides leave the sides alike. -/
theorem State.Agrees.store (a : Nat) (bs : List Byte) : (s.store a bs).Agrees lo hi (Memory.putAll m a bs) draw := by
  intro x hlo hhi
  rw [← State.store_withBuf, State.byteAt_store, State.byteAt_store, h x hlo hhi]

theorem State.Agrees.storeRecord (ord : ByteOrder) (c code len : Nat) :
    ∃ m', (s.withBuf m draw).storeRecord ord c code len = (s.storeRecord ord c code len).withBuf m' draw ∧
      (s.storeRecord ord c code len).Agrees lo hi m' draw := by
  simp only [State.storeRecord, State.store_withBuf]
  exact ⟨_, rfl, ((h.store _ _).store _ _).store _ _⟩

theorem State.Agrees.storeFrame (ord : ByteOrder) (base type len : Nat) :
    ∃ m', (s.withBuf m draw).storeFrame ord base type len = (s.storeFrame ord base type len).withBuf m' draw ∧
      (s.storeFrame ord base type len).Agrees lo hi m' draw := by
  simp only [State.storeFrame, State.store_withBuf]
  exact ⟨_, rfl, (((h.store _ _).store _ _).store _ _).store _ _⟩

/-- A state that the multiplicity check staged has the same BUF (R142). -/
theorem State.Agrees.of_multiplicity {t : State} {code : Nat} {dir : Direction}
    (hm : multiplicity (s.lookup code) dir s = .accept t ∨ multiplicity (s.lookup code) dir s = .discard t) :
    t.Agrees lo hi m draw := by
  have frame := multiplicity_frame hm
  exact h.congr (by rw [frame]) (by rw [frame])

end

/-! ### Each command's two runs

One `.ite` per check of the pseudocode, in its order. A check that reads BUF is rewritten first: the checks before it bound what
it reads by the limit. -/

section
variable {draw : Nat} {s : State} {m : Memory} (h : s.Agrees s.cursor s.limit m draw)
include h

theorem intDecBody_alike (width : IntWidth) (signed : Bool) :
    CmdEnd.Alike s.cursor s.limit draw (intDecBody width signed s) (intDecBody width signed (s.withBuf m draw)) := by
  refine .ite .rfl (fun _ => .raise ..) fun _ => .ite .rfl (fun _ => .raise ..) fun _ =>
    .ite .rfl (fun _ => .raise ..) fun hend => ?_
  have read : (s.withBuf m draw).loadInt (s.withBuf m draw).ctrl.bo (s.withBuf m draw).cursor width.bytes =
      s.loadInt s.ctrl.bo s.cursor width.bytes := h.loadInt _ le_rfl (not_lt.1 hend)
  rw [read]
  exact .commit _ m h.congr

theorem intEncBody_alike (width : IntWidth) :
    CmdEnd.Alike s.cursor s.limit draw (intEncBody width s) (intEncBody width (s.withBuf m draw)) :=
  .ite .rfl (fun _ => .raise ..) fun _ => .ite .rfl (fun _ => .raise ..) fun _ => .ite .rfl (fun _ => .raise ..) fun _ =>
    .commit _ _ (h.store s.cursor (toBytes (truncated width s) width.bytes s.ctrl.bo)).congr

theorem flagConfigBody_alike :
    CmdEnd.Alike s.cursor s.limit draw (flagConfigBody s) (flagConfigBody (s.withBuf m draw)) :=
  .ite .rfl (fun _ => .raise ..) fun _ => .ite .rfl (fun _ => .raise ..) fun _ => .ite .rfl (fun _ => .raise ..) fun _ =>
    .ite .rfl (fun _ => .raise ..) fun _ => .commit _ m h.congr

theorem flagGetBody_alike (fidx : Nat) :
    CmdEnd.Alike s.cursor s.limit draw (flagGetBody fidx s) (flagGetBody fidx (s.withBuf m draw)) :=
  .ite .rfl (fun _ => .raise ..) fun _ => .ite .rfl (fun _ => .raise ..) fun _ => .commit _ m h.congr

theorem flagSetBody_alike (fidx : Nat) :
    CmdEnd.Alike s.cursor s.limit draw (flagSetBody fidx s) (flagSetBody fidx (s.withBuf m draw)) :=
  .ite .rfl (fun _ => .raise ..) fun _ => .ite .rfl (fun _ => .raise ..) fun _ => .commit _ m h.congr

theorem optEndBody_alike : CmdEnd.Alike s.cursor s.limit draw (optEndBody s) (optEndBody (s.withBuf m draw)) :=
  .ite .rfl (fun _ => .raise ..) fun _ => .ite .rfl (fun _ => .raise ..) fun _ =>
    .commit _ _ (h.store s.cursor (zeros 4)).congr

theorem frameEncBody_alike : CmdEnd.Alike s.cursor s.limit draw (frameEncBody s) (frameEncBody (s.withBuf m draw)) := by
  refine .ite .rfl (fun _ => .raise ..) fun _ => .ite .rfl (fun _ => .raise ..) fun _ =>
    .ite .rfl (fun _ => .raise ..) fun _ => .ite .rfl (fun _ => .raise ..) fun _ =>
    .ite .rfl (fun _ => .raise ..) fun _ => ?_
  obtain ⟨m', stored, agrees⟩ := h.storeFrame s.ctrl.bo s.cursor s.value s.len
  have stored : (s.withBuf m draw).storeFrame (s.withBuf m draw).ctrl.bo (s.withBuf m draw).cursor
      (s.withBuf m draw).value (s.withBuf m draw).len = _ := stored
  rw [stored]
  exact .commit _ m' agrees.congr

theorem optDecBody_alike : CmdEnd.Alike s.cursor s.limit draw (optDecBody s) (optDecBody (s.withBuf m draw)) := by
  refine .ite .rfl (fun _ => .raise ..) fun _ => .ite .rfl (fun _ => .raise ..) fun _ =>
    .ite .rfl (fun _ => .commit _ m h.congr) fun _ => .ite .rfl (fun _ => .raise ..) fun hlong => ?_
  have hlong : ¬s.limit - s.cursor < 4 := hlong
  have code : (s.withBuf m draw).codeAt (s.withBuf m draw).cursor = s.codeAt s.cursor :=
    h.loadInt (a := s.cursor) _ le_rfl (by omega)
  have len : (s.withBuf m draw).lenAt (s.withBuf m draw).cursor = s.lenAt s.cursor :=
    h.loadInt (a := s.cursor + 2) _ (by omega) (by omega)
  have verdict : ∀ c, multiplicity ((s.withBuf m draw).lookup c) .dec (s.withBuf m draw) =
      (multiplicity (s.lookup c) .dec s).withBuf m draw := fun c => multiplicity_withBuf ..
  rw [code, len, verdict]
  refine .ite .rfl (fun _ => .commit _ m h.congr) fun _ => .ite .rfl (fun _ => .raise ..) fun _ => ?_
  rcases hm : multiplicity (s.lookup (s.codeAt s.cursor)) .dec s with t | t | _
  · exact .commit _ m (h.of_multiplicity (.inl hm)).congr
  · exact .commit _ m (h.of_multiplicity (.inr hm)).congr
  · exact .raise ..

theorem optEncBody_alike : CmdEnd.Alike s.cursor s.limit draw (optEncBody s) (optEncBody (s.withBuf m draw)) := by
  refine .ite .rfl (fun _ => .raise ..) fun _ => .ite .rfl (fun _ => .raise ..) fun _ =>
    .ite .rfl (fun _ => .raise ..) fun _ => .ite .rfl (fun _ => .raise ..) fun _ => ?_
  have verdict : multiplicity ((s.withBuf m draw).lookup (s.withBuf m draw).value) .enc (s.withBuf m draw) =
      (multiplicity (s.lookup s.value) .enc s).withBuf m draw := multiplicity_withBuf ..
  rw [verdict]
  rcases hm : multiplicity (s.lookup s.value) .enc s with t | t | _
  · obtain ⟨m', stored, agrees⟩ := (h.of_multiplicity (.inl hm)).storeRecord s.ctrl.bo s.cursor s.value s.len
    simp only [Verdict.withBuf]
    have stored : (t.withBuf m draw).storeRecord (s.withBuf m draw).ctrl.bo (s.withBuf m draw).cursor
        (s.withBuf m draw).value (s.withBuf m draw).len = _ := stored
    rw [stored]
    exact .commit _ m' agrees.congr
  · exact .commit _ m (h.of_multiplicity (.inr hm)).congr
  · exact .raise ..

/-- From the leading length on, FRAME_DEC reads up to the trailer's end, and only when that is below the limit (R175). -/
theorem frameDecIn_alike (ord : ByteOrder) (shb : Bool) (hlen : s.cursor + 8 ≤ s.limit) :
    CmdEnd.Alike s.cursor s.limit draw (frameDecIn ord shb s) (frameDecIn ord shb (s.withBuf m draw)) := by
  have type : (s.withBuf m draw).loadInt ord (s.withBuf m draw).cursor 4 = s.loadInt ord s.cursor 4 :=
    h.loadInt (a := s.cursor) ord le_rfl (by omega)
  have total : (s.withBuf m draw).loadInt ord ((s.withBuf m draw).cursor + 4) 4 = s.loadInt ord (s.cursor + 4) 4 :=
    h.loadInt (a := s.cursor + 4) ord (by omega) (by omega)
  unfold frameDecIn
  rw [type, total]
  refine .ite .rfl (fun _ => .raise ..) fun _ => .ite .rfl (fun _ => .raise ..) fun _ =>
    .ite .rfl (fun _ => .raise ..) fun hend => ?_
  have trailer : (s.withBuf m draw).loadInt ord
      ((s.withBuf m draw).cursor + trailerOffset (s.loadInt ord (s.cursor + 4) 4)) 4 =
      s.loadInt ord (s.cursor + trailerOffset (s.loadInt ord (s.cursor + 4) 4)) 4 :=
    h.loadInt (a := s.cursor + trailerOffset _) ord (by omega) (not_lt.1 hend)
  rw [trailer]
  refine .ite .rfl (fun _ => .raise ..) fun _ => ?_
  cases shb <;> exact .commit _ m h.congr

theorem frameDecBody_alike : CmdEnd.Alike s.cursor s.limit draw (frameDecBody s) (frameDecBody (s.withBuf m draw)) := by
  refine .ite .rfl (fun _ => .raise ..) fun _ => .ite .rfl (fun _ => .commit _ m h.congr) fun _ =>
    .ite .rfl (fun _ => .raise ..) fun hlong => ?_
  have hlong : ¬s.limit - s.cursor < 8 := hlong
  have type : (s.withBuf m draw).load (s.withBuf m draw).cursor 4 = s.load s.cursor 4 :=
    h.load (a := s.cursor) le_rfl (by omega)
  rw [type]
  refine .ite .rfl (fun _ => .ite .rfl (fun _ => .raise ..) fun hmagic => ?_) fun _ =>
    .ite .rfl (fun _ => .raise ..) fun _ => frameDecIn_alike h _ _ (by omega)
  have hmagic : ¬s.limit - s.cursor < 12 := hmagic
  have magic : (s.withBuf m draw).load ((s.withBuf m draw).cursor + 8) 4 = s.load (s.cursor + 8) 4 :=
    h.load (a := s.cursor + 8) (by omega) (by omega)
  rw [magic]
  rcases detectOrder (s.load (s.cursor + 8) 4) with _ | ord
  · exact .raise ..
  · exact frameDecIn_alike h _ _ (by omega)

theorem commandBody_alike (i : Instr) :
    CmdEnd.Alike s.cursor s.limit draw (commandBody i s) (commandBody i (s.withBuf m draw)) := by
  cases i with
  | nop => exact .commit _ m h
  | intDec width signed => exact intDecBody_alike h width signed
  | intEnc width signed => exact intEncBody_alike h width
  | flagConfig => exact flagConfigBody_alike h
  | flagGet fidx => exact flagGetBody_alike h fidx
  | flagSet fidx => exact flagSetBody_alike h fidx
  | optBegin => exact .commit _ m h.congr
  | optDec => exact optDecBody_alike h
  | optEnc => exact optEncBody_alike h
  | optEnd => exact optEndBody_alike h
  | frameEnc => exact frameEncBody_alike h
  | frameDec => exact frameDecBody_alike h

end

/-- The completion does not look at BUF (R211, R212). -/
theorem CmdEnd.Alike.complete {lo hi draw : Nat} {s : State} {m : Memory} {e e' : CmdEnd} (hs : s.Agrees lo hi m draw)
    (h : CmdEnd.Alike lo hi draw e e') :
    ∃ m', complete (s.withBuf m draw).start e' = (complete s.start e).withBuf m' draw ∧
      (complete s.start e).Agrees lo hi m' draw := by
  cases h with
  | raise e p => cases p <;> exact ⟨m, rfl, hs.congr⟩
  | commit u m' hu => exact ⟨m', rfl, hu.congr⟩

/-- Settles O14: the two runs of the pseudocode take the same branches, read the same bytes and store the same bytes. -/
theorem commandsReadOnlyBetweenCursorAndLimit : Obligations.CommandsReadOnlyBetweenCursorAndLimit := by
  unfold Obligations.CommandsReadOnlyBetweenCursorAndLimit
  intro i s t m draw h ht
  have hs : s.Agrees s.cursor s.limit m draw := h
  have hstart : s.start.Agrees s.start.cursor s.start.limit m draw := hs.congr
  obtain ⟨m', hend, agrees⟩ := (commandBody_alike hstart i).complete hs
  refine ⟨(complete s.start (commandBody i s.start)).withBuf m' draw, ?_, ?_, ?_⟩
  · rw [← hend]
    exact exec_eq i (s.withBuf m draw)
  · rw [eq_complete_of_exec ht]
    rfl
  · rw [eq_complete_of_exec ht]
    exact agrees

end Sys2Proof.Machine

namespace Sys2Proof.Machine

/-! ### Fields of a register word (R22 to R40) -/

/-- One bit is a field of width 1. -/
theorem bitAt_eq_fieldAt (b : Bool) (pos : Nat) : bitAt b pos = fieldAt (BitVec.ofBool b) pos := by
  cases b
  · simp [bitAt, fieldAt]
  · rfl

@[simp] theorem getElem_bitAt (b : Bool) (pos : Nat) {i : Nat} (hi : i < 64) : (bitAt b pos)[i] = (b && decide (i = pos)) :=
  getLsbD_bitAt b pos hi

@[simp] theorem getElem_fieldAt {n : Nat} (v : BitVec n) (pos : Nat) {i : Nat} (hi : i < 64) :
    (fieldAt v pos)[i] = (decide (pos ≤ i) && v.getLsbD (i - pos)) :=
  getLsbD_fieldAt v pos hi

/-- A field has no bit where a field of ones has none. -/
theorem fieldAt_and_eq_zero {n : Nat} {v : BitVec n} {pos : Nat} {m : Word}
    (h : fieldAt (BitVec.allOnes n) pos &&& m = 0) : fieldAt v pos &&& m = 0 := by
  refine BitVec.eq_of_getLsbD_eq fun i hi => ?_
  have hones := congrArg (·.getLsbD i) h
  simp only [BitVec.getLsbD_and, getLsbD_fieldAt _ _ hi, BitVec.getLsbD_allOnes] at hones ⊢
  by_cases hlt : i - pos < n
  · simp_all
  · simp [BitVec.getLsbD_of_ge v _ (not_lt.1 hlt)]

/-- A mask that holds every bit of a field keeps the field. -/
theorem fieldAt_and_eq_self {n : Nat} {v : BitVec n} {pos : Nat} {m : Word}
    (h : fieldAt (BitVec.allOnes n) pos &&& ~~~m = 0) : fieldAt v pos &&& m = fieldAt v pos := by
  have hout : fieldAt v pos &&& ~~~m = 0 := fieldAt_and_eq_zero h
  calc fieldAt v pos &&& m
      = (fieldAt v pos &&& m) ||| (fieldAt v pos &&& ~~~m) := by rw [hout]; exact BitVec.or_zero.symm
    _ = fieldAt v pos := by rw [← BitVec.and_or_distrib_left, BitVec.or_not_self, BitVec.and_allOnes]

@[simp] theorem bitAt_false (pos : Nat) : bitAt false pos = 0 := rfl

theorem bitAt_and (b : Bool) (pos : Nat) (w : Word) : bitAt b pos &&& w = bitAt (b && w.getLsbD pos) pos := by
  refine BitVec.eq_of_getLsbD_eq fun i hi => ?_
  rw [BitVec.getLsbD_and, getLsbD_bitAt _ _ hi, getLsbD_bitAt _ _ hi]
  by_cases h : i = pos
  · simp [h]
  · simp [h]

/-- Outside its own bits a field is 0. -/
@[simp] theorem extractLsb'_fieldAt_disjoint {n : Nat} (v : BitVec n) {pos start len : Nat}
    (h : start + len ≤ pos ∨ pos + n ≤ start) : (fieldAt v pos).extractLsb' start len = 0 := by
  refine BitVec.eq_of_getLsbD_eq fun i hi => ?_
  simp only [BitVec.getLsbD_extractLsb', hi, decide_true, Bool.true_and]
  by_cases h64 : start + i < 64
  · rw [getLsbD_fieldAt _ _ h64]
    rcases h with h | h
    · simp [show ¬pos ≤ start + i by omega]
    · simp [BitVec.getLsbD_of_ge v (start + i - pos) (by omega)]
  · simp [BitVec.getLsbD_of_ge (fieldAt v pos) _ (not_lt.1 h64)]

@[simp] theorem extractLsb'_bitAt_disjoint (b : Bool) {pos start len : Nat} (h : start + len ≤ pos ∨ pos + 1 ≤ start) :
    (bitAt b pos).extractLsb' start len = 0 := by
  rw [bitAt_eq_fieldAt, extractLsb'_fieldAt_disjoint _ h]

/-- A field reads back at its own place. -/
@[simp] theorem extractLsb'_fieldAt_same {n : Nat} (v : BitVec n) {pos : Nat} (h : pos + n ≤ 64) :
    (fieldAt v pos).extractLsb' pos n = v := by
  refine BitVec.eq_of_getLsbD_eq fun i hi => ?_
  rw [BitVec.getLsbD_extractLsb', getLsbD_fieldAt _ _ (by omega)]
  simp [hi]

/-- The bits of a datum put back where they were taken. -/
theorem fieldAt_extractLsb' (v : Word) (pos n : Nat) :
    fieldAt (v.extractLsb' pos n) pos = v &&& fieldAt (BitVec.allOnes n) pos := by
  refine BitVec.eq_of_getLsbD_eq fun i hi => ?_
  rw [BitVec.getLsbD_and, getLsbD_fieldAt _ _ hi, getLsbD_fieldAt _ _ hi, BitVec.getLsbD_extractLsb',
    BitVec.getLsbD_allOnes]
  by_cases h : pos ≤ i
  · simp [h, Bool.and_comm]
  · simp [h]

theorem bitAt_getLsbD (v : Word) (pos : Nat) : bitAt (v.getLsbD pos) pos = v &&& bitAt true pos := by
  rw [BitVec.and_comm, bitAt_and, Bool.true_and]

@[simp] theorem orderBit_eq_true (o : ByteOrder) : orderBit o = true ↔ o = .be := by
  cases o <;> decide

/-! ### The register words (R22 to R38) -/

theorem Ctrl.toWord_fields (c : Ctrl) :
    c.toWord &&& ~~~0x71F#64 = 0 ∧
      (c.toWord.getLsbD 0 = true ↔ c.bo = .be) ∧ c.toWord.getLsbD 1 = c.bov ∧
      c.toWord.extractLsb' 2 2 = c.policy.code ∧ c.toWord.getLsbD 4 = c.dupkeep ∧
      c.toWord.getLsbD 8 = c.ieDone ∧ c.toWord.getLsbD 9 = c.ieErr ∧ c.toWord.getLsbD 10 = c.ieWarn := by
  constructor
  · simp (disch := decide) [Ctrl.toWord, BitVec.and_or_distrib_right, bitAt_and, fieldAt_and_eq_zero]
  · simp [Ctrl.toWord, BitVec.extractLsb'_or]

theorem Status.toWord_fields (t : Status) :
    t.toWord &&& ~~~0xFFFF3F#64 = 0 ∧
      t.toWord.getLsbD 0 = t.busy ∧ t.toWord.getLsbD 1 = t.done ∧ t.toWord.getLsbD 2 = t.err ∧
      t.toWord.getLsbD 3 = t.warn ∧ t.toWord.getLsbD 4 = t.problem ∧ t.toWord.getLsbD 5 = t.ovr ∧
      t.toWord.extractLsb' 8 8 = t.errcode.code ∧ t.toWord.extractLsb' 16 8 = t.probcode.code := by
  constructor
  · simp (disch := decide) [Status.toWord, BitVec.and_or_distrib_right, bitAt_and, fieldAt_and_eq_zero]
  · simp [Status.toWord, BitVec.extractLsb'_or]

theorem Info.toWord_fields (i : Info) :
    i.toWord &&& ~~~0x11F1F3F07#64 = 0 ∧
      i.toWord.getLsbD 0 = i.eos ∧ i.toWord.getLsbD 1 = i.shb ∧ (i.toWord.getLsbD 2 = true ↔ i.detbo = .be) ∧
      i.toWord.getLsbD 8 = i.endMark ∧ i.toWord.getLsbD 9 = i.implicitEnd ∧ i.toWord.getLsbD 10 = i.known ∧
      i.toWord.getLsbD 11 = i.dup ∧ i.toWord.getLsbD 12 = i.discard ∧ i.toWord.getLsbD 13 = i.supersedes ∧
      i.toWord.extractLsb' 16 5 = i.didx ∧ i.toWord.extractLsb' 24 5 = i.type ∧ i.toWord.getLsbD 32 = i.invalid := by
  constructor
  · simp (disch := decide) [Info.toWord, BitVec.and_or_distrib_right, bitAt_and, fieldAt_and_eq_zero]
  · simp [Info.toWord, BitVec.extractLsb'_or]

theorem OptDesc.toWord_fields (d : OptDesc) :
    d.toWord &&& ~~~0xBFFFFFFF#64 = 0 ∧
      d.toWord.extractLsb' 0 16 = d.code ∧ d.toWord.extractLsb' 16 8 = d.kind ∧ d.toWord.extractLsb' 24 5 = d.type ∧
      d.toWord.getLsbD 29 = d.mult ∧ d.toWord.getLsbD 31 = d.valid := by
  constructor
  · simp (disch := decide) [OptDesc.toWord, BitVec.and_or_distrib_right, bitAt_and, fieldAt_and_eq_zero]
  · simp [OptDesc.toWord, BitVec.extractLsb'_or]

theorem FwCfg.toWord_fields (c : FwCfg) :
    c.toWord &&& ~~~0x11F7F#64 = 0 ∧
      c.toWord.extractLsb' 0 7 = c.w ∧ c.toWord.extractLsb' 8 5 = c.nf ∧ c.toWord.getLsbD 16 = c.valid := by
  constructor
  · simp (disch := decide) [FwCfg.toWord, BitVec.and_or_distrib_right, bitAt_and, fieldAt_and_eq_zero]
  · simp [FwCfg.toWord, BitVec.extractLsb'_or]

theorem FwField.toWord_fields (f : FwField) :
    f.toWord &&& ~~~0x3F00FFFF00007F03#64 = 0 ∧
      f.toWord.extractLsb' 0 2 = f.kind.code ∧ f.toWord.extractLsb' 8 7 = f.width ∧
      f.toWord.extractLsb' 32 16 = f.nsym ∧ f.toWord.extractLsb' 56 6 = f.offset := by
  constructor
  · simp (disch := decide) [FwField.toWord, BitVec.and_or_distrib_right, fieldAt_and_eq_zero]
  · simp [FwField.toWord, BitVec.extractLsb'_or]

/-- Settles O59: each register's word holds its fields in their bits, and the code numbers are those of the tables. -/
theorem registerWordsHoldTheirFields : Obligations.RegisterWordsHoldTheirFields := by
  unfold Obligations.RegisterWordsHoldTheirFields
  intro s
  exact ⟨rfl, s.ctrl.toWord_fields, s.status.toWord_fields, s.info.toWord_fields,
    ⟨rfl, rfl, rfl, rfl, rfl, rfl, rfl, rfl, rfl, rfl, rfl, rfl, rfl⟩, fun i => (s.desc i).toWord_fields,
    s.fwCfg.toWord_fields, fun j => (s.field j).toWord_fields⟩

/-! ### Resets (R41, R230, R231) -/

/-- Settles O54: nothing is written, configured or reported after reset. -/
theorem resetMeetsTheInvariant : Obligations.ResetMeetsTheInvariant where
  config := by decide
  buf := ⟨List.Pairwise.nil, fun _ hp => absurd hp List.not_mem_nil⟩
  schema := State.schemaInv_of_not_valid rfl
  info := fun _ => rfl

@[simp] theorem State.readReg_hardReset (s : State) (r : Reg) : s.hardReset.readReg r = State.reset.readReg r := by
  cases r <;> rfl

@[simp] theorem State.readReg_softReset (s : State) (r : Reg) : s.softReset.readReg r = State.reset.readReg r := by
  cases r <;> rfl

theorem State.desc_reset (i : Nat) : State.reset.desc i = OptDesc.zero := by
  simp only [State.desc, State.reset, Vector.getElem?_replicate]
  split <;> rfl

theorem State.field_reset (j : Nat) : State.reset.field j = FwField.zero := by
  simp only [State.field, State.reset, Vector.getElem?_replicate]
  split <;> rfl

/-- R41: the value of every register after reset. -/
theorem State.readReg_reset (r : Reg) :
    State.reset.readReg r = if r = .id then 0x0000000150424631 else if r = .ctrl then 0xC else 0 := by
  cases r with
  | optDesc i => rw [State.readReg, State.desc_reset]; rfl
  | fwField j => rw [State.readReg, State.field_reset]; rfl
  | _ => rfl

/-- Settles O43: both resets set every register as in the reset state. -/
theorem resetsSetEveryRegister : Obligations.ResetsSetEveryRegister := by
  unfold Obligations.ResetsSetEveryRegister
  intro s t ht
  refine ⟨fun r => ?_, ?_, ?_⟩
  · rcases ht with rfl | rfl | rfl
    · rw [State.readReg_hardReset, State.readReg_reset]
    · rw [State.readReg_softReset, State.readReg_reset]
    · exact State.readReg_reset r
  · rcases ht with rfl | rfl | rfl <;> rfl
  · rintro rfl a
    rfl

/-! ### Register accesses (R29, R40, R72) -/

/-- An idle write at a register's offset is the write of that register. -/
theorem hostWrite_register_idle {s : State} {off : Nat} {r : Reg} (v : Word) (hidle : s.status.busy = false)
    (hr : regAt off = r) (h8 : off % 8 = 0 := by decide) (h : off < 0x10000 := by decide) :
    hostWrite (s.cfg.apertureBase + off) .b8 v s = .next (s.writeReg r v) := by
  rw [hostWrite_register s v h8 h, hidle, hr]
  rfl

/-- A register none of whose bits R72 leaves unspecified reads as its value, busy or idle. -/
theorem State.regDatum_eq_readReg (s : State) {r : Reg} (h : s.status.busy = false ∨ r.volatileBits = 0) :
    s.regDatum r = s.readReg r := by
  rcases h with h | h
  · exact State.regDatum_idle h r
  · have hall : ~~~(0 : Word) = BitVec.allOnes 64 := rfl
    have hfree : Config.freeRead s.readDraw &&& (0 : Word) = 0 := BitVec.and_zero
    have hor : s.readReg r ||| (0 : Word) = s.readReg r := BitVec.or_zero
    rw [State.regDatum, h, hall, BitVec.and_allOnes, hfree, hor, ite_self]

/-- What an 8-byte read at a register's offset delivers: the register's value, while idle or where R72 keeps it stable. -/
theorem State.hostReads_readReg {s : State} {off : Nat} {r : Reg} (hs : s.status.busy = false ∨ r.volatileBits = 0)
    (hr : regAt off = r) (h8 : off % 8 = 0 := by decide) (h : off < 0x10000 := by decide) :
    s.HostReads off (s.readReg r) := by
  rw [State.hostReads_register s h8 h, hr, State.regDatum_eq_readReg s hs]

/-- Settles O8: CMD holds what the write latched, and R72 keeps it readable while BUSY = 1. -/
theorem cmdWriteLatchesTheWord : Obligations.CmdWriteLatchesTheWord := by
  unfold Obligations.CmdWriteLatchesTheWord
  refine ⟨rfl, fun s v hidle => ⟨_, hostWrite_register_idle (r := .cmd) v hidle rfl, ?_, ?_⟩⟩
  · rw [← BitVec.setWidth_eq_extractLsb' (by decide)]
    rfl
  · obtain ⟨u, hread, hdatum⟩ := (s.writeReg .cmd v).hostReads_readReg (off := 0x020) (r := .cmd) (.inr rfl) rfl
    refine ⟨u, hread, ?_⟩
    have hword : (s.writeReg .cmd v).readReg .cmd = (v.setWidth 32).setWidth 64 := rfl
    rw [hdatum, hword, BitVec.toNat_setWidth_of_le (by decide), BitVec.toNat_setWidth]

/-! ### Reserved and read-only offsets (R40) -/

/-- ID, INFO and the RES registers, and the reserved offsets, ignore an idle write. -/
theorem State.writeReg_readOnly (s : State) {r : Reg} (v : Word)
    (h : r ∈ [Reg.id, .info, .res0, .res1, .res2, .res3, .reserved]) : s.writeReg r v = s := by
  simp only [List.mem_cons, List.not_mem_nil, or_false] at h
  rcases h with rfl | rfl | rfl | rfl | rfl | rfl | rfl <;> rfl

theorem regAt_readOnly {off : Nat} (h8 : off % 8 = 0) (h : off = 0 ∨ off = 0x028 ∨ (0x050 ≤ off ∧ off ≤ 0x068)) :
    regAt off ∈ [Reg.id, .info, .res0, .res1, .res2, .res3, .reserved] := by
  have : off = 0 ∨ off = 0x028 ∨ off = 0x050 ∨ off = 0x058 ∨ off = 0x060 ∨ off = 0x068 := by omega
  rcases this with rfl | rfl | rfl | rfl | rfl | rfl <;> decide

/-- The window past BUF drops every byte of a write. -/
theorem State.writeWindow_past (s : State) {a : Nat} (width : AccessWidth) (v : Word) (h : s.cfg.bufBytes ≤ a) :
    s.writeWindow a width v = s := by
  rw [State.writeWindow, Nat.sub_eq_zero_of_le h]
  rfl

theorem fromBytesLE_zeros (n : Nat) : fromBytesLE (zeros n) = 0 := by
  induction n with
  | zero => rfl
  | succ n ih => rw [zeros, List.replicate_succ, fromBytesLE, ← zeros, ih]; rfl

/-- The window past BUF reads 0, busy or idle. -/
theorem State.windowDatum_past (s : State) {a : Nat} (width : AccessWidth) (h : s.cfg.bufBytes ≤ a) :
    s.windowDatum a width = 0 := by
  have hbyte : ∀ i, s.windowByte a i = 0 := fun i => if_neg (by omega)
  have hbytes : (List.range width.bytes).map (fun i => s.windowByte a i) = zeros width.bytes := by
    simp [hbyte, zeros]
  rw [State.windowDatum, hbytes, fromBytesLE_zeros]
  rfl

theorem State.deliver_idle {s : State} (hidle : s.status.busy = false) (v : Word) :
    s.deliver v = { s with busRead := v } := by
  rw [State.deliver, hidle]
  rfl

/-- Settles O50: a read-only or reserved register ignores the write, and the window past BUF holds no byte. -/
theorem reservedAndReadOnlyIgnoreWrites : Obligations.ReservedAndReadOnlyIgnoreWrites := by
  unfold Obligations.ReservedAndReadOnlyIgnoreWrites
  intro s off width v hidle
  refine ⟨fun h8 h => ?_, fun h8 h => ?_, fun h => ?_⟩
  · rw [hostWrite_register_idle v hidle rfl h8 (by omega), State.writeReg_readOnly s v (regAt_readOnly h8 h)]
  · have hr : regAt off = .reserved := regAt_reserved (by omega)
    constructor
    · rw [hostWrite_register_idle v hidle hr h8 (by omega), State.writeReg_readOnly s v (by decide)]
    · rw [hostRead_register s h8 (by omega), hr, State.deliver_idle hidle, State.regDatum_idle hidle]
      rfl
  · constructor
    · rw [hostWrite, target_window _ width (by omega)]
      simp only [hidle]
      rw [State.writeWindow_past s width v (by omega)]
      rfl
    · rw [hostRead_window s width (by omega), State.deliver_idle hidle, State.windowDatum_past s width (by omega)]

/-! ### Write and read back (R22 to R38) -/

theorem Policy.code_ofCode (c : BitVec 2) : (Policy.ofCode c).code = c := by
  revert c; decide

theorem FieldKind.code_ofCode (c : BitVec 2) : (FieldKind.ofCode c).code = c := by
  revert c; decide

theorem orderBit_orderOfBit (b : Bool) : orderBit (orderOfBit b) = b := by
  cases b <;> rfl

/-- A host write of CTRL stores its writable bits (R22 to R26). -/
theorem Ctrl.toWord_ofWord (v : Word) : (Ctrl.ofWord v).toWord = v &&& 0x71F := by
  simp only [Ctrl.toWord, Ctrl.ofWord, Policy.code_ofCode, orderBit_orderOfBit, bitAt_getLsbD, fieldAt_extractLsb',
    ← BitVec.and_or_distrib_left]
  rfl

/-- A host write of an OPT_DESC entry stores its writable bits (R35). -/
theorem OptDesc.toWord_ofWord (v : Word) : (OptDesc.ofWord v).toWord = v &&& 0xBFFFFFFF := by
  simp only [OptDesc.toWord, OptDesc.ofWord, bitAt_getLsbD, fieldAt_extractLsb', ← BitVec.and_or_distrib_left]
  rfl

/-- A host write of FW_CFG stores W and NF and clears VALID (R37). -/
theorem FwCfg.toWord_ofWord (v : Word) : (FwCfg.ofWord v).toWord = v &&& 0x1F7F := by
  simp only [FwCfg.toWord, FwCfg.ofWord, fieldAt_extractLsb', ← BitVec.and_or_distrib_left]
  rw [bitAt_false]
  exact BitVec.or_zero

/-- OFFSET's bits of an FW_FIELD word (R38). -/
theorem FwField.toWord_and_offset (f : FwField) : f.toWord &&& 0x3F00000000000000 = fieldAt f.offset 56 := by
  simp (disch := decide) [FwField.toWord, BitVec.and_or_distrib_right, fieldAt_and_eq_zero, fieldAt_and_eq_self]

/-- A host write of an FW_FIELD entry stores its writable bits and keeps OFFSET (R38). -/
theorem FwField.toWord_written (f : FwField) (v : Word) :
    (f.written v).toWord = (v &&& 0x0000FFFF00007F03) ||| (f.toWord &&& 0x3F00000000000000) := by
  rw [FwField.toWord_and_offset]
  simp only [FwField.toWord, FwField.written, FieldKind.code_ofCode, fieldAt_extractLsb', ← BitVec.and_or_distrib_left]
  rfl

/-- A field keeps its value under a write-1-to-clear of other bits. -/
theorem fieldAt_and_not {n : Nat} {x : BitVec n} {pos : Nat} {v m : Word}
    (h : fieldAt (BitVec.allOnes n) pos &&& m = 0) : fieldAt x pos &&& ~~~(v &&& m) = fieldAt x pos := by
  refine fieldAt_and_eq_self ?_
  rw [BitVec.not_not, BitVec.and_comm v, ← BitVec.and_assoc, h]
  exact BitVec.zero_and

/-- A host write of STATUS clears each of bits 1 to 5 where it holds a 1 (R27). -/
theorem Status.toWord_writeOneToClear (t : Status) (v : Word) :
    (t.writeOneToClear v).toWord = t.toWord &&& ~~~(v &&& 0x3E) := by
  simp (disch := decide) [Status.toWord, Status.writeOneToClear, BitVec.and_or_distrib_right, bitAt_and, fieldAt_and_not]

/-- A plain register of n bits holds the low n bits of the datum (R33, R34). -/
theorem setWidth_setWidth_eq_and_ones (v : Word) {n : Nat} (h : n ≤ 64) :
    (v.setWidth n).setWidth 64 = v &&& fieldAt (BitVec.allOnes n) 0 := by
  rw [← fieldAt_extractLsb', BitVec.setWidth_eq_extractLsb' h, fieldAt, BitVec.shiftLeft_zero]

/-- An idle write of a register, and the read at the same offset that follows it. -/
theorem hostWrite_readsBack {s t : State} {off : Nat} {r : Reg} {v w : Word} (hidle : s.status.busy = false)
    (hr : regAt off = r) (hwrite : s.writeReg r v = t) (hread : t.readReg r = w)
    (hstatus : t.status = s.status := by rfl) (h8 : off % 8 = 0 := by decide) (h : off < 0x10000 := by decide) :
    hostWrite (s.cfg.apertureBase + off) .b8 v s = .next t ∧ t.HostReads off w := by
  constructor
  · rw [hostWrite_register_idle v hidle hr h8 h, hwrite]
  · rw [← hread]
    exact State.hostReads_readReg (.inl (hstatus ▸ hidle)) hr h8 h

/-- The same with what is known of the state after the write. -/
theorem exists_hostWrite_readsBack {s t : State} {off : Nat} {r : Reg} {v w : Word} {P : State → Prop}
    (hidle : s.status.busy = false) (hr : regAt off = r) (hwrite : s.writeReg r v = t) (hP : P t)
    (hread : t.readReg r = w) (hstatus : t.status = s.status := by rfl) (h8 : off % 8 = 0 := by decide)
    (h : off < 0x10000 := by decide) :
    ∃ u, hostWrite (s.cfg.apertureBase + off) .b8 v s = .next u ∧ P u ∧ u.HostReads off w :=
  have ⟨hw, hreads⟩ := hostWrite_readsBack hidle hr hwrite hread hstatus h8 h
  ⟨t, hw, hP, hreads⟩

theorem State.writeReg_ctrl (s : State) {v : Word} (h : v.getLsbD 63 = false) :
    s.writeReg .ctrl v = { s with ctrl := Ctrl.ofWord v } := by
  rw [State.writeReg, srst, h]
  rfl

/-- OPT_DESC after a write of its entry i. -/
theorem State.desc_writeReg (s : State) {i : Nat} (hi : i < 32) (v : Word) (k : Nat) :
    (s.writeReg (.optDesc i) v).desc k = if k = i then OptDesc.ofWord v else s.desc k := by
  by_cases h : k = i
  · simp [State.desc, State.writeReg, h, hi]
  · simp [State.desc, State.writeReg, h, Ne.symm h]

/-- FW_FIELD after a write of its entry j. -/
theorem State.field_writeReg (s : State) {j : Nat} (hj : j < 16) (v : Word) (k : Nat) :
    (s.writeReg (.fwField j) v).field k = if k = j then (s.field j).written v else s.field k := by
  by_cases h : k = j
  · simp [State.field, State.writeReg, h, hj]
  · simp [State.field, State.writeReg, h, Ne.symm h]

/-- Settles O51: each register's write, and the read of the word it stored. -/
theorem registerWritesReadBack : Obligations.RegisterWritesReadBack := by
  unfold Obligations.RegisterWritesReadBack
  intro s v hidle
  refine ⟨fun hsrst => ?_, ?_, ?_, ?_, ?_, ?_, ?_, ?_, ?_, fun i hi => ?_, fun j hj => ?_⟩
  · exact exists_hostWrite_readsBack hidle rfl (s.writeReg_ctrl hsrst) rfl (Ctrl.toWord_ofWord v)
  · exact exists_hostWrite_readsBack (r := .arg0) hidle rfl rfl rfl rfl
  · exact exists_hostWrite_readsBack (r := .arg1) hidle rfl rfl rfl rfl
  · exact exists_hostWrite_readsBack (r := .arg2) hidle rfl rfl rfl rfl
  · exact exists_hostWrite_readsBack (r := .arg3) hidle rfl rfl rfl rfl
  · exact exists_hostWrite_readsBack (r := .fwValue) hidle rfl rfl rfl rfl
  · exact exists_hostWrite_readsBack (r := .optKind) hidle rfl rfl rfl (setWidth_setWidth_eq_and_ones v (by decide))
  · exact exists_hostWrite_readsBack (r := .optSeen) hidle rfl rfl rfl (setWidth_setWidth_eq_and_ones v (by decide))
  · exact exists_hostWrite_readsBack (r := .fwCfg) hidle rfl rfl rfl (FwCfg.toWord_ofWord v)
  · have hword : (s.writeReg (.optDesc i) v).readReg (.optDesc i) = v &&& 0xBFFFFFFF := by
      rw [State.readReg, s.desc_writeReg hi, if_pos rfl, OptDesc.toWord_ofWord]
    obtain ⟨hwrite, hread⟩ := hostWrite_readsBack hidle (regAt_optDesc hi) rfl hword rfl (by omega) (by omega)
    rw [Nat.add_assoc]
    exact ⟨_, hwrite, rfl, hread, fun k hk => by rw [s.desc_writeReg hi, if_neg hk]⟩
  · have hword : (s.writeReg (.fwField j) v).readReg (.fwField j) =
        (v &&& 0x0000FFFF00007F03) ||| (s.readReg (.fwField j) &&& 0x3F00000000000000) := by
      rw [State.readReg, s.field_writeReg hj, if_pos rfl, FwField.toWord_written, State.readReg]
    obtain ⟨hwrite, hread⟩ := hostWrite_readsBack hidle (regAt_fwField hj) rfl hword rfl (by omega) (by omega)
    rw [Nat.add_assoc]
    exact ⟨_, hwrite, rfl, hread, fun k hk => by rw [s.field_writeReg hj, if_neg hk]⟩

/-- A host write of STATUS is performed busy or idle (R236). -/
theorem hostWrite_status (s : State) (v : Word) :
    hostWrite (s.cfg.apertureBase + 0x010) .b8 v s = .next { s with status := s.status.writeOneToClear v } := by
  rw [hostWrite_register s v (by decide) (by decide)]
  exact congrArg _ (ite_self _)

/-- Settles O52: what a STATUS write stores, and the read of it; PROBLEM_CNT takes no value but 0. -/
theorem statusIsWriteOneToClear : Obligations.StatusIsWriteOneToClear := by
  unfold Obligations.StatusIsWriteOneToClear
  intro s v
  refine ⟨⟨_, hostWrite_status s v, rfl, ?_⟩, fun hidle => hostWrite_register_idle v hidle rfl⟩
  have hword : ({ s with status := s.status.writeOneToClear v } : State).readReg .status =
      s.readReg .status &&& ~~~(v &&& 0x3E) := s.status.toWord_writeOneToClear v
  rw [← hword]
  exact State.hostReads_readReg (.inr rfl) rfl

/-! ### Which registers a command writes (R42) -/

/-- R42: what command `i` leaves alone when it takes `s` to `u`. -/
structure State.WritesOwnRegisters (i : Instr) (s u : State) : Prop where
  arg0 : u.arg0 = s.arg0 := by rfl
  arg1 : u.arg1 = s.arg1 := by rfl
  arg2 : u.arg2 = s.arg2 := by rfl
  arg3 : u.arg3 = s.arg3 := by rfl
  cmd : u.cmd = s.cmd := by rfl
  optKind : u.optKind = s.optKind := by rfl
  optDesc : u.optDesc = s.optDesc := by rfl
  byteOrder : u.ctrl = { s.ctrl with bo := u.ctrl.bo, bov := u.ctrl.bov } := by rfl
  schema : u.fwCfg = { s.fwCfg with valid := u.fwCfg.valid } := by rfl
  offset : ∀ j, u.field j = { s.field j with offset := (u.field j).offset } := by intro; rfl
  ctrl : i ≠ .frameDec → u.ctrl = s.ctrl := by intros; rfl
  optSeen : i ≠ .optBegin → i ≠ .optDec → i ≠ .optEnc → u.optSeen = s.optSeen := by intros; rfl
  fwValue : (∀ j, i ≠ .flagSet j) → u.fwValue = s.fwValue := by intros; rfl
  configured : i ≠ .flagConfig → u.fwField = s.fwField ∧ u.fwCfg.valid = s.fwCfg.valid := by exact fun _ => ⟨rfl, rfl⟩

theorem intDecBody_writesOwn {width : IntWidth} {signed : Bool} {s u : State} (h : intDecBody width signed s = .commit u) :
    State.WritesOwnRegisters (.intDec width signed) s u := by
  rcases intDecBody_cases width signed s with ⟨_, e⟩ | ⟨_, _, e⟩ | ⟨_, _, _, e⟩ <;> cases e.symm.trans h
  exact {}

theorem intEncBody_writesOwn {width : IntWidth} {signed : Bool} {s u : State} (h : intEncBody width s = .commit u) :
    State.WritesOwnRegisters (.intEnc width signed) s u := by
  rcases intEncBody_cases width s with ⟨_, e⟩ | ⟨_, _, e⟩ | ⟨_, _, _, e⟩ <;> cases e.symm.trans h
  exact {}

theorem State.field_eq_zero {s : State} {j : Nat} (h : 16 ≤ j) : s.field j = FwField.zero := by
  simp [State.field, h]

/-- FLAG_CONFIG writes OFFSET alone in the register file (R121). -/
theorem State.field_configured_offset (s : State) (j : Nat) :
    s.configured.field j = { s.field j with offset := (s.configured.field j).offset } := by
  by_cases h : j < 16
  · rw [s.field_configured h]
    split <;> rfl
  · rw [State.field_eq_zero (not_lt.1 h), State.field_eq_zero (not_lt.1 h)]

theorem flagConfigBody_writesOwn {s u : State} (h : flagConfigBody s = .commit u) :
    State.WritesOwnRegisters .flagConfig s u := by
  rcases flagConfigBody_cases s with e | ⟨_, _, _, _, _, e⟩ <;> cases e.symm.trans h
  exact { offset := s.field_configured_offset, configured := fun hi => absurd rfl hi }

theorem flagGetBody_writesOwn {fidx : Nat} {s u : State} (h : flagGetBody fidx s = .commit u) :
    State.WritesOwnRegisters (.flagGet fidx) s u := by
  rcases flagGetBody_cases fidx s with ⟨_, e⟩ | ⟨_, _, e⟩ <;> cases e.symm.trans h
  exact {}

theorem flagSetBody_writesOwn {fidx : Nat} {s u : State} (h : flagSetBody fidx s = .commit u) :
    State.WritesOwnRegisters (.flagSet fidx) s u := by
  rcases flagSetBody_cases fidx s with ⟨_, e⟩ | ⟨_, _, e⟩ <;> cases e.symm.trans h
  exact { fwValue := fun hi => absurd rfl (hi fidx) }

theorem optDecBody_writesOwn {s u : State} (h : optDecBody s = .commit u) : State.WritesOwnRegisters .optDec s u := by
  rcases optDecBody_cases s with ⟨_, e⟩ | ⟨_, _, e⟩ | ⟨_, _, _, e⟩ | ⟨_, _, _, _, e⟩ | ⟨_, _, _, _, _, e⟩ |
    ⟨_, _, _, _, _, ⟨t, hm, e⟩ | ⟨_, e⟩⟩ <;> cases e.symm.trans h
  · exact {}
  · exact {}
  · rw [multiplicity_frame hm]
    exact { optSeen := fun _ hi => absurd rfl hi }

theorem optEncBody_writesOwn {s u : State} (h : optEncBody s = .commit u) : State.WritesOwnRegisters .optEnc s u := by
  rcases optEncBody_cases s with ⟨_, e⟩ | ⟨_, _, e⟩ | ⟨_, _, _, e⟩ | ⟨_, _, _, _, e⟩ |
    ⟨_, _, _, _, ⟨t, hm, e⟩ | ⟨t, hm, e⟩ | ⟨_, e⟩⟩ <;> cases e.symm.trans h
  · rw [multiplicity_frame (.inl hm), State.storeRecord_frame]
    exact { optSeen := fun _ _ hi => absurd rfl hi }
  · rw [multiplicity_frame (.inr hm)]
    exact { optSeen := fun _ _ hi => absurd rfl hi }

theorem optEndBody_writesOwn {s u : State} (h : optEndBody s = .commit u) : State.WritesOwnRegisters .optEnd s u := by
  rcases optEndBody_cases s with ⟨_, e⟩ | ⟨_, _, e⟩ <;> cases e.symm.trans h
  exact {}

theorem frameEncBody_writesOwn {s u : State} (h : frameEncBody s = .commit u) :
    State.WritesOwnRegisters .frameEnc s u := by
  rcases frameEncBody_cases s with ⟨_, e⟩ | ⟨_, _, e⟩ | ⟨_, _, _, e⟩ | ⟨_, _, _, _, e⟩ | ⟨_, _, _, _, _, e⟩ <;>
    cases e.symm.trans h
  rw [State.storeFrame_frame]
  exact {}

/-- FRAME_DEC opens a section or leaves CTRL alone (R177). -/
theorem frameDecBody_writesOwn {s u : State} (h : frameDecBody s = .commit u) :
    State.WritesOwnRegisters .frameDec s u := by
  rcases frameDecBody_frame s with ⟨_, _, _, e⟩ | ⟨_, e, frame, hctrl⟩ <;> cases e.symm.trans h
  have byteOrder : u.ctrl = { s.ctrl with bo := u.ctrl.bo, bov := u.ctrl.bov } := by
    rcases hctrl with hctrl | ⟨hctrl, _⟩ <;> rw [hctrl]
  rw [frame]
  exact { byteOrder, ctrl := fun hi => absurd rfl hi }

theorem commandBody_writesOwn {i : Instr} {s u : State} (h : commandBody i s = .commit u) :
    State.WritesOwnRegisters i s u := by
  cases i with
  | nop => cases h; exact {}
  | intDec width signed => exact intDecBody_writesOwn h
  | intEnc width signed => exact intEncBody_writesOwn h
  | flagConfig => exact flagConfigBody_writesOwn h
  | flagGet fidx => exact flagGetBody_writesOwn h
  | flagSet fidx => exact flagSetBody_writesOwn h
  | optBegin => cases h; exact { optSeen := fun hi => absurd rfl hi }
  | optDec => exact optDecBody_writesOwn h
  | optEnc => exact optEncBody_writesOwn h
  | optEnd => exact optEndBody_writesOwn h
  | frameEnc => exact frameEncBody_writesOwn h
  | frameDec => exact frameDecBody_writesOwn h

/-- The common start and the completion write INFO and STATUS alone (R100, R212). -/
theorem State.WritesOwnRegisters.complete {i : Instr} {s u : State} (h : State.WritesOwnRegisters i s.start u)
    (e : ErrorCode) : State.WritesOwnRegisters i s (u.finish e) :=
  ⟨h.arg0, h.arg1, h.arg2, h.arg3, h.cmd, h.optKind, h.optDesc, h.byteOrder, h.schema, h.offset, h.ctrl, h.optSeen,
    h.fwValue, h.configured⟩

theorem exec_writesOwn {i : Instr} {s t : State} (h : exec i s = .next t) : State.WritesOwnRegisters i s t := by
  rw [eq_complete_of_exec h]
  rcases he : commandBody i s.start with u | ⟨e, _ | p⟩
  · exact (commandBody_writesOwn he).complete .ok
  · exact {}
  · exact {}

/-- Settles O11: each command's body writes its own registers only, and its end writes INFO, STATUS and PROBLEM_CNT. -/
theorem commandsWriteOnlyTheirRegisters : Obligations.CommandsWriteOnlyTheirRegisters := by
  unfold Obligations.CommandsWriteOnlyTheirRegisters
  intro i s t h
  have own := exec_writesOwn h
  have policies : t.ctrl.policy = s.ctrl.policy ∧ t.ctrl.dupkeep = s.ctrl.dupkeep ∧ t.ctrl.ieDone = s.ctrl.ieDone ∧
      t.ctrl.ieErr = s.ctrl.ieErr ∧ t.ctrl.ieWarn = s.ctrl.ieWarn := by
    rw [own.byteOrder]
    exact ⟨rfl, rfl, rfl, rfl, rfl⟩
  obtain ⟨policy, dupkeep, ieDone, ieErr, ieWarn⟩ := policies
  refine ⟨own.arg0, own.arg1, own.arg2, own.arg3, policy, dupkeep, ieDone, ieErr, ieWarn, own.optKind, own.optDesc, own.cmd,
    by rw [own.schema], by rw [own.schema], fun j => ?_, own.ctrl, own.optSeen, own.fwValue, own.configured⟩
  rw [own.offset j]
  exact ⟨rfl, rfl, rfl⟩

/-! ### A command started with other sticky flags (R44) -/

/-- The command of a latched word as its body; a word that is no command raises ILLEGAL_CMD (R87, R100). -/
def latchedBody (w : BitVec 32) : State → CmdEnd :=
  match decode w with
  | .ok i => commandBody i
  | .error _ => fun _ => .raise .illegalCmd none

/-- The engine's turn on a latched word is the completion of its body. -/
theorem engineTurn_eq {s : State} (h : s.status.busy = true) :
    engineTurn s = .next (complete s.start (latchedBody s.cmd s.start)) := by
  rw [engineTurn, if_pos h, latchedBody]
  cases decode s.cmd with
  | ok i => exact exec_eq i s
  | error _ => rfl

section
variable (d e w p o : Bool)

/-- `s` with other values of DONE, ERR, WARN, PROBLEM and OVR. -/
def State.setSticky (s : State) : State :=
  { s with status := { s.status with done := d, err := e, warn := w, problem := p, ovr := o } }

/-- `s` as a command leaves it that began with these values of DONE, ERR, WARN, PROBLEM and OVR and has recorded no more than the
problem that INFO.DUP shows (R206, R209). At the start INFO is 0, so these are the five values themselves. -/
def State.withSticky (s : State) : State :=
  { s with status := { s.status with
      done := d, err := e, warn := w || (s.info.dup && s.ctrl.policy == .warn), problem := p || s.info.dup, ovr := o } }

/-- At the start of a command no problem is reported. -/
theorem State.start_setSticky (s : State) : (s.setSticky d e w p o).start = s.start.withSticky d e w p o := by
  simp [State.setSticky, State.start, State.withSticky, Info.zero]

/-- The check's verdict with the flags of the staged state so. -/
def Verdict.withSticky (v : Verdict) : Verdict :=
  match v with
  | .accept t => .accept (t.withSticky d e w p o)
  | .discard t => .discard (t.withSticky d e w p o)
  | .policyFail => .policyFail

/-- A command's end with the flags of the staged state so; a raise stages nothing. -/
def CmdEnd.withSticky (c : CmdEnd) : CmdEnd :=
  match c with
  | .commit u => .commit (u.withSticky d e w p o)
  | .raise code reported => .raise code reported

/-- The multiplicity check neither reads nor clears the flags, and sets them for the problem it reports (R142, R206). -/
theorem multiplicity_withSticky (hit : Option (Nat × OptDesc)) (dir : Direction) {s : State} (hdup : s.info.dup = false) :
    multiplicity hit dir (s.withSticky d e w p o) = (multiplicity hit dir s).withSticky d e w p o := by
  rcases hit with _ | ⟨i, desc⟩
  · rfl
  · simp only [multiplicity, apply_ite (Verdict.withSticky d e w p o)]
    simp [Verdict.withSticky, State.withSticky, State.report, hdup, State.known, State.markSeen]

theorem frameDecIn_withSticky (ord : ByteOrder) (shb : Bool) (s : State) :
    frameDecIn ord shb (s.withSticky d e w p o) = (frameDecIn ord shb s).withSticky d e w p o := by
  simp only [frameDecIn, apply_ite (CmdEnd.withSticky d e w p o)]
  cases shb <;> rfl

theorem frameDecBody_withSticky (s : State) :
    frameDecBody (s.withSticky d e w p o) = (frameDecBody s).withSticky d e w p o := by
  have inner : ∀ ord shb, frameDecIn ord shb (s.withSticky d e w p o) = _ := fun ord shb =>
    frameDecIn_withSticky d e w p o ord shb s
  have magic : (s.withSticky d e w p o).load ((s.withSticky d e w p o).cursor + 8) 4 = s.load (s.cursor + 8) 4 := rfl
  simp only [frameDecBody, apply_ite (CmdEnd.withSticky d e w p o), inner, magic]
  cases detectOrder (s.load (s.cursor + 8) 4) <;> rfl

theorem optDecBody_withSticky {s : State} (hdup : s.info.dup = false) :
    optDecBody (s.withSticky d e w p o) = (optDecBody s).withSticky d e w p o := by
  have code : (s.withSticky d e w p o).codeAt (s.withSticky d e w p o).cursor = s.codeAt s.cursor := rfl
  simp only [optDecBody, apply_ite (CmdEnd.withSticky d e w p o), code, multiplicity_withSticky d e w p o _ .dec hdup]
  have lookup : (s.withSticky d e w p o).lookup (s.codeAt s.cursor) = s.lookup (s.codeAt s.cursor) := rfl
  rw [lookup]
  cases multiplicity (s.lookup (s.codeAt s.cursor)) .dec s <;> rfl

theorem optEncBody_withSticky {s : State} (hdup : s.info.dup = false) :
    optEncBody (s.withSticky d e w p o) = (optEncBody s).withSticky d e w p o := by
  simp only [optEncBody, apply_ite (CmdEnd.withSticky d e w p o), multiplicity_withSticky d e w p o _ .enc hdup]
  have lookup : (s.withSticky d e w p o).lookup (s.withSticky d e w p o).value = s.lookup s.value := rfl
  rw [lookup]
  cases multiplicity (s.lookup s.value) .enc s <;> rfl

/-- No command reads the flags; those that check multiplicity set them for the problem they report (R44, R206). -/
theorem commandBody_withSticky (i : Instr) {s : State} (hdup : s.info.dup = false) :
    commandBody i (s.withSticky d e w p o) = (commandBody i s).withSticky d e w p o := by
  cases i with
  | optDec => exact optDecBody_withSticky d e w p o hdup
  | optEnc => exact optEncBody_withSticky d e w p o hdup
  | frameDec => exact frameDecBody_withSticky d e w p o s
  | nop | optBegin => rfl
  | intDec | intEnc | flagConfig | flagGet | flagSet | optEnd | frameEnc =>
    simp only [commandBody, intDecBody, intEncBody, flagConfigBody, flagGetBody, flagSetBody, optEndBody, frameEncBody,
      apply_ite (CmdEnd.withSticky d e w p o)]
    rfl

theorem latchedBody_withSticky (word : BitVec 32) {s : State} (hdup : s.info.dup = false) :
    latchedBody word (s.withSticky d e w p o) = (latchedBody word s).withSticky d e w p o := by
  unfold latchedBody
  cases decode word with
  | ok i => exact commandBody_withSticky d e w p o i hdup
  | error _ => rfl

end

/-- How a command reports a problem: POLICY_FAIL reports a duplicate option, and no other error reports one (R142, R203). -/
def CmdEnd.ReportsRightly : CmdEnd → Prop
  | .commit _ => True
  | .raise e none => e ≠ .ok ∧ e ≠ .policyFail
  | .raise e (some p) => e = .policyFail ∧ p = .dupOption

@[simp] theorem CmdEnd.reportsRightly_commit (u : State) : (CmdEnd.commit u).ReportsRightly := trivial
@[simp] theorem CmdEnd.reportsRightly_raise_none (e : ErrorCode) :
    (CmdEnd.raise e none).ReportsRightly ↔ e ≠ .ok ∧ e ≠ .policyFail := .rfl
@[simp] theorem CmdEnd.reportsRightly_raise_some (e : ErrorCode) (p : ProblemCode) :
    (CmdEnd.raise e (some p)).ReportsRightly ↔ e = .policyFail ∧ p = .dupOption := .rfl

theorem commandBody_reportsRightly (i : Instr) (s : State) : (commandBody i s).ReportsRightly := by
  cases i with
  | nop => trivial
  | intDec width signed =>
    rcases intDecBody_cases width signed s with ⟨_, e⟩ | ⟨_, _, e⟩ | ⟨_, _, _, e⟩ <;> simp [commandBody, e]
  | intEnc width signed =>
    rcases intEncBody_cases width s with ⟨_, e⟩ | ⟨_, _, e⟩ | ⟨_, _, _, e⟩ <;> simp [commandBody, e]
  | flagConfig =>
    rcases flagConfigBody_cases s with e | ⟨_, _, _, _, _, e⟩ <;> simp [commandBody, e]
  | flagGet fidx =>
    rcases flagGetBody_cases fidx s with ⟨_, e⟩ | ⟨_, _, e⟩ <;> simp [commandBody, e]
  | flagSet fidx =>
    rcases flagSetBody_cases fidx s with ⟨_, e⟩ | ⟨_, _, e⟩ <;> simp [commandBody, e]
  | optBegin => trivial
  | optDec =>
    rcases optDecBody_cases s with ⟨_, e⟩ | ⟨_, _, e⟩ | ⟨_, _, _, e⟩ | ⟨_, _, _, _, e⟩ | ⟨_, _, _, _, _, e⟩ |
      ⟨_, _, _, _, _, ⟨_, _, e⟩ | ⟨_, e⟩⟩ <;> simp [commandBody, e]
  | optEnc =>
    rcases optEncBody_cases s with ⟨_, e⟩ | ⟨_, _, e⟩ | ⟨_, _, _, e⟩ | ⟨_, _, _, _, e⟩ |
      ⟨_, _, _, _, ⟨_, _, e⟩ | ⟨_, _, e⟩ | ⟨_, e⟩⟩ <;> simp [commandBody, e]
  | optEnd =>
    rcases optEndBody_cases s with ⟨_, e⟩ | ⟨_, _, e⟩ <;> simp [commandBody, e]
  | frameEnc =>
    rcases frameEncBody_cases s with ⟨_, e⟩ | ⟨_, _, e⟩ | ⟨_, _, _, e⟩ | ⟨_, _, _, _, e⟩ | ⟨_, _, _, _, _, e⟩ <;>
      simp [commandBody, e]
  | frameDec =>
    rcases frameDecBody_frame s with ⟨_, hok, hpolicy, e⟩ | ⟨_, e, _⟩
    · simp [commandBody, e, hok, hpolicy]
    · simp [commandBody, e]

theorem latchedBody_reportsRightly (word : BitVec 32) (s : State) : (latchedBody word s).ReportsRightly := by
  unfold latchedBody
  cases decode word with
  | ok i => exact commandBody_reportsRightly i s
  | error _ => simp

/-- A latched command keeps CTRL.POLICY (R42). -/
theorem latchedBody_policy {word : BitVec 32} {s u : State} (h : latchedBody word s = .commit u) :
    u.ctrl.policy = s.ctrl.policy := by
  unfold latchedBody at h
  cases hw : decode word with
  | ok i =>
    rw [hw] at h
    rw [(commandBody_writesOwn h).byteOrder]
  | error _ => rw [hw] at h; cases h

/-- The completed state `t` with the sticky flags it has when the command began with these values of ERR, WARN, PROBLEM and OVR
(R206, R209, R212). -/
def State.completedFrom (policy : Policy) (e w p o : Bool) (t : State) : State :=
  { t with status := { t.status with
      err := e || t.status.errcode != .ok
      warn := w || ((t.info.dup || t.status.errcode == .policyFail) && policy == .warn)
      problem := p || (t.info.dup || t.status.errcode == .policyFail)
      ovr := o } }

/-- The completion adds ERR for an error, and the flags of the problem that POLICY_FAIL reports (R206, R212). -/
theorem complete_withSticky (d e w p o : Bool) {s : State} {c : CmdEnd} (hreport : c.ReportsRightly)
    (hpolicy : ∀ u, c = .commit u → u.ctrl.policy = s.start.ctrl.policy) :
    complete (s.start.withSticky d e w p o) (c.withSticky d e w p o) =
      (complete s.start c).completedFrom s.ctrl.policy e w p o := by
  rcases c with u | ⟨code, _ | problem⟩
  · have hu : u.ctrl.policy = s.ctrl.policy := hpolicy u rfl
    have hok : (ErrorCode.ok == ErrorCode.policyFail) = false := by decide
    simp [CmdEnd.withSticky, State.withSticky, State.completedFrom, State.finish, hu, hok]
  · obtain ⟨_, hcode⟩ := hreport
    simp [CmdEnd.withSticky, State.withSticky, State.completedFrom, State.finish, State.start, Info.zero, hcode]
  · obtain ⟨rfl, rfl⟩ := hreport
    simp [CmdEnd.withSticky, State.withSticky, State.completedFrom, State.finish, State.report, State.start, Info.zero]

/-- A latched command started with other values of the sticky flags ends in the same state, but for those flags (R44). -/
theorem engineTurn_sticky {s t : State} (d e w p o : Bool) (hbusy : s.status.busy = true)
    (ht : engineTurn s = .next t) :
    engineTurn (s.setSticky d e w p o) = .next (t.completedFrom s.ctrl.policy e w p o) := by
  rw [engineTurn_eq hbusy] at ht
  have hend : complete s.start (latchedBody s.cmd s.start) = t := Host.Outcome.next.inj ht
  have hbody : latchedBody (s.setSticky d e w p o).cmd (s.start.withSticky d e w p o) =
      (latchedBody s.cmd s.start).withSticky d e w p o := latchedBody_withSticky d e w p o s.cmd rfl
  have hcomplete := complete_withSticky d e w p o (latchedBody_reportsRightly s.cmd s.start) fun _ => latchedBody_policy
  rw [engineTurn_eq (s := s.setSticky d e w p o) hbusy, State.start_setSticky, hbody, hcomplete, hend]

/-- Settles O12: the run with other flags is `engineTurn_sticky`, and with the flags `s` holds it is the run itself. -/
theorem noCommandClearsOrReadsStickyFlags : Obligations.NoCommandClearsOrReadsStickyFlags := by
  unfold Obligations.NoCommandClearsOrReadsStickyFlags
  intro s t d e w p o hbusy ht
  have own := engineTurn_sticky s.status.done s.status.err s.status.warn s.status.problem s.status.ovr hbusy ht
  have own : t = t.completedFrom s.ctrl.policy s.status.err s.status.warn s.status.problem s.status.ovr :=
    Host.Outcome.next.inj (ht.symm.trans own)
  have hdone : t.status.done = true := by
    rw [engineTurn_eq hbusy] at ht
    obtain rfl := Host.Outcome.next.inj ht
    rcases latchedBody s.cmd s.start with _ | ⟨_, _ | _⟩ <;> rfl
  refine ⟨fun _ => hdone, fun h => ?_, fun h => ?_, fun h => ?_, ?_, hdone, engineTurn_sticky d e w p o hbusy ht⟩
  · rw [own]; simp [State.completedFrom, h]
  · rw [own]; simp [State.completedFrom, h]
  · rw [own]; simp [State.completedFrom, h]
  · rw [own]; rfl

end Sys2Proof.Machine

namespace Sys2Proof.Machine

/-! ### Turns (R71, R72, R218, R230) -/

/-- A step with turns waiting takes the first of them. -/
theorem step_of_turns {s : State} {turn : Turn} {ts : List Turn} (h : s.turns = turn :: ts) :
    step s = takeTurn turn { s with turns := ts } := by
  rw [step, h]

/-- Settles O7: each kind of turn is what `takeTurn` makes of it. -/
theorem turnsArePerformedInOrder : Obligations.TurnsArePerformedInOrder := by
  unfold Obligations.TurnsArePerformedInOrder
  intro s ts
  exact ⟨fun _ _ _ h => step_of_turns h, fun _ _ h => step_of_turns h, fun h => step_of_turns h⟩

/-! ### Host reads (R69, R72) -/

/-- A host read that answers delivers one datum and changes nothing else (R69). -/
theorem hostRead_eq_deliver {addr : Nat} {width : AccessWidth} {s t : State} (h : hostRead addr width s = .next t) :
    ∃ v, t = s.deliver v := by
  unfold hostRead at h
  split at h <;> cases h
  · exact ⟨_, rfl⟩
  · exact ⟨_, rfl⟩

@[simp] theorem State.readReg_deliver (s : State) (v : Word) (r : Reg) : (s.deliver v).readReg r = s.readReg r := by
  cases r <;> rfl

@[simp] theorem State.byteAt_deliver (s : State) (v : Word) (a : Nat) : (s.deliver v).byteAt a = s.byteAt a := rfl

/-- While idle no datum depends on what the host has read before, so a read answers the same after another (R69). -/
theorem hostRead_deliver {s : State} (hidle : s.status.busy = false) (v : Word) (addr : Nat) (width : AccessWidth) :
    hostRead addr width (s.deliver v) = hostRead addr width s := by
  have hreg : ∀ r, (s.deliver v).regDatum r = s.regDatum r := fun r => by simp [State.regDatum, hidle]
  have hwindow : ∀ a, (s.deliver v).windowDatum a width = s.windowDatum a width := fun a => by
    simp [State.windowDatum, State.windowByte, hidle]
  have hdeliver : ∀ w, (s.deliver v).deliver w = s.deliver w := fun w => by simp [State.deliver, hidle]
  simp only [hostRead, State.deliver_cfg, hreg, hwindow, hdeliver]

/-- Settles O46: the state after a read is that of a delivery, and reading there again delivers the same. -/
theorem hostReadsHaveNoSideEffect : Obligations.HostReadsHaveNoSideEffect := by
  unfold Obligations.HostReadsHaveNoSideEffect
  intro s t addr width h
  obtain ⟨v, rfl⟩ := hostRead_eq_deliver h
  refine ⟨rfl, fun hidle => ⟨?_, ?_⟩⟩
  · rw [State.deliver_idle hidle]
  · rw [hostRead_deliver hidle, h]

/-- A register of the map outside R72's list has no unspecified bit. -/
theorem registerMap_stable : ∀ p ∈ registerMap,
    p.2 ∉ [Reg.res0, .res1, .res2, .res3, .info, .optSeen, .fwValue, .fwCfg] → p.2.volatileBits = 0 := by decide

/-- What an 8-byte read at a register's offset delivers agrees with the register's value outside its unspecified bits. -/
theorem State.exists_hostReads_stable (s : State) {off : Nat} {r : Reg} (hr : regAt off = r) (h8 : off % 8 = 0)
    (h : off < 0x10000) : ∃ v, s.HostReads off v ∧ v &&& ~~~r.volatileBits = s.readReg r &&& ~~~r.volatileBits :=
  ⟨s.regDatum r, (s.hostReads_register h8 h _).2 (by rw [hr]), s.regDatum_stable r (BitVec.and_not_self _)⟩

/-- The reserved space past BUF delivers 0, busy or idle (R40). -/
theorem State.hostReads_past (s : State) {off : Nat} (h : 0x10000 + s.cfg.bufBytes ≤ off) : s.HostReads off 0 :=
  ⟨_, hostRead_window s .b8 (by omega), s.windowDatum_past .b8 (by omega)⟩

/-- Settles O47: `volatileBits` leaves every other bit of a register as its value. -/
theorem readsWhileBusyOfStableRegisters : Obligations.ReadsWhileBusyOfStableRegisters := by
  unfold Obligations.ReadsWhileBusyOfStableRegisters
  intro s _
  refine ⟨fun p hp hstable => ?_, fun i hi => ?_, ?_, fun j hj => ?_, ?_⟩
  · obtain ⟨h8, h, hr⟩ := regAt_registerMap p hp
    exact State.hostReads_readReg (.inr (registerMap_stable p hp hstable)) hr h8 h
  · exact State.hostReads_readReg (.inr rfl) (regAt_optDesc hi) (by omega) (by omega)
  · exact s.exists_hostReads_stable (r := .fwCfg) rfl (by decide) (by decide)
  · exact s.exists_hostReads_stable (r := .fwField j) (regAt_fwField hj) (by omega) (by omega)
  · rintro off (⟨h8, hoff⟩ | hpast)
    · exact State.hostReads_readReg (r := .reserved) (.inr rfl) (regAt_reserved (by omega)) h8 (by omega)
    · exact s.hostReads_past hpast

/-- Settles O58: while idle every register's datum is its value. -/
theorem hostReadsDeliverTheRegisterAtTheOffset : Obligations.HostReadsDeliverTheRegisterAtTheOffset := by
  unfold Obligations.HostReadsDeliverTheRegisterAtTheOffset
  intro s hidle
  refine ⟨fun p hp => ?_, fun i hi => ?_, fun j hj => ?_⟩
  · obtain ⟨h8, h, hr⟩ := regAt_registerMap p hp
    exact State.hostReads_readReg (.inl hidle) hr h8 h
  · exact State.hostReads_readReg (.inl hidle) (regAt_optDesc hi) (by omega) (by omega)
  · exact State.hostReads_readReg (.inl hidle) (regAt_fwField hj) (by omega) (by omega)

/-! ### Which accesses are performed (R67) -/

theorem hostWrite_window (s : State) {off : Nat} (width : AccessWidth) (v : Word) (h : 0x10000 ≤ off) :
    hostWrite (s.cfg.apertureBase + off) width v s =
      .next (if s.status.busy then s.dropWrite else s.writeWindow (off - 0x10000) width v) := by
  rw [hostWrite, target_window _ width h]

/-- Settles O48: the aperture map refuses the accesses that R67 names and reaches a register or the window with the others. -/
theorem registerAccessesAreEightBytesAligned : Obligations.RegisterAccessesAreEightBytesAligned := by
  unfold Obligations.RegisterAccessesAreEightBytesAligned
  intro s off width v
  constructor
  · intro h hw
    have hmap := target_unsupported s.cfg h (mt And.symm hw)
    exact ⟨by rw [hostWrite, hmap], by rw [hostRead, hmap]⟩
  · intro h
    by_cases hwindow : 0x10000 ≤ off
    · exact ⟨⟨_, hostWrite_window s width v hwindow⟩, _, hostRead_window s width hwindow⟩
    · obtain ⟨rfl, h8⟩ := h.resolve_left hwindow
      exact ⟨⟨_, hostWrite_register s v h8 (by omega)⟩, _, hostRead_register s h8 (by omega)⟩

/-! ### The BUF window (R64) -/

theorem AccessWidth.bytes_le_eight (width : AccessWidth) : width.bytes ≤ 8 := by
  cases width <;> decide

/-- Byte k of a host datum. -/
theorem extractLsb'_byte (w : Word) (k : Nat) : w.extractLsb' (8 * k) 8 = BitVec.ofNat 8 (w.toNat / 256 ^ k) := by
  rw [BitVec.extractLsb', Nat.shiftRight_eq_div_pow, Nat.pow_mul]

/-- The bytes of a host datum are its bits, eight by eight (R64). -/
theorem hostBytes_getElem? (width : AccessWidth) (v : Word) {k : Nat} (h : k < width.bytes) :
    (hostBytes width v)[k]? = some (v.extractLsb' (8 * k) 8) := by
  rw [hostBytes, toBytesLE_getElem? _ _ _ h, extractLsb'_byte]

/-- A byte of BUF after an idle window write: the datum's, where the access meets BUF, and otherwise what it was (R64, R40). -/
theorem State.byteAt_writeWindow (s : State) (a : Nat) (width : AccessWidth) (v : Word) (x : Nat) :
    (s.writeWindow a width v).byteAt x =
      if a ≤ x ∧ x < a + width.bytes ∧ x < s.cfg.bufBytes then v.extractLsb' (8 * (x - a)) 8 else s.byteAt x := by
  have hlen : ((hostBytes width v).take (s.cfg.bufBytes - a)).length = min (s.cfg.bufBytes - a) width.bytes := by
    simp [hostBytes]
  rw [State.writeWindow, State.byteAt_store, hlen]
  by_cases hin : a ≤ x ∧ x < a + width.bytes ∧ x < s.cfg.bufBytes
  · rw [if_pos (by omega), if_pos hin, List.getElem?_take_of_lt (by omega), hostBytes_getElem? width v (by omega)]
    rfl
  · rw [if_neg (by omega), if_neg hin]

/-- FromBytes has the bytes it was given as its digits to base 256 (R17). -/
theorem ofNat_fromBytesLE_div_pow {bs : List Byte} {k : Nat} (h : k < bs.length) :
    BitVec.ofNat 8 (fromBytesLE bs / 256 ^ k) = bs[k] := by
  induction bs generalizing k with
  | nil => simp at h
  | cons b bs ih =>
    have hb := b.isLt
    cases k with
    | zero =>
      refine BitVec.eq_of_toNat_eq ?_
      rw [pow_zero, Nat.div_one, fromBytesLE, BitVec.toNat_ofNat, List.getElem_cons_zero]
      omega
    | succ k =>
      have hdiv : fromBytesLE (b :: bs) / 256 = fromBytesLE bs := by rw [fromBytesLE]; omega
      rw [Nat.pow_succ', ← Nat.div_div_eq_div_mul, hdiv, ih (by simpa using h), List.getElem_cons_succ]

/-- No datum of a window read is reduced: at most eight bytes fit the word. -/
theorem State.toNat_windowDatum (s : State) (a : Nat) (width : AccessWidth) :
    (s.windowDatum a width).toNat = fromBytesLE ((List.range width.bytes).map (s.windowByte a)) := by
  refine Nat.mod_eq_of_lt ((fromBytesLE_lt _).trans_le ?_)
  rw [List.length_map, List.length_range]
  exact Nat.pow_le_pow_right (n := 256) (by decide) width.bytes_le_eight

theorem State.toNat_windowDatum_lt (s : State) (a : Nat) (width : AccessWidth) :
    (s.windowDatum a width).toNat < 256 ^ width.bytes := by
  rw [State.toNat_windowDatum]
  simpa using fromBytesLE_lt ((List.range width.bytes).map (s.windowByte a))

/-- Byte k of the datum of a window read (R64). -/
theorem State.windowDatum_byte (s : State) (a : Nat) (width : AccessWidth) {k : Nat} (h : k < width.bytes) :
    (s.windowDatum a width).extractLsb' (8 * k) 8 = s.windowByte a k := by
  rw [extractLsb'_byte, State.toNat_windowDatum, ofNat_fromBytesLE_div_pow (by simpa using h)]
  simp

/-- Settles O49: the bytes of the datum written, and the digits of the datum read, are bytes of BUF in rising order. -/
theorem windowAccessesAreLittleEndian : Obligations.WindowAccessesAreLittleEndian := by
  unfold Obligations.WindowAccessesAreLittleEndian
  intro s a width v hidle
  have hwrite := hostWrite_window s width v (off := 0x10000 + a) (by omega)
  have hread := hostRead_window s width (off := 0x10000 + a) (by omega)
  rw [← Nat.add_assoc, Nat.add_sub_cancel_left] at hwrite hread
  rw [hidle] at hwrite
  refine ⟨⟨_, hwrite, rfl, fun k hk hbuf => ?_, fun b hb => ?_⟩, _, hread, fun k hk => ?_, s.toNat_windowDatum_lt a width⟩
  · exact (s.byteAt_writeWindow a width v (a + k)).trans (by rw [if_pos (by omega), Nat.add_sub_cancel_left])
  · exact (s.byteAt_writeWindow a width v b).trans (if_neg (by omega))
  · rw [State.deliver_busRead, s.windowDatum_byte a width hk, State.windowByte, hidle]
    rfl

/-! ### The byte order (R63, R177, R230, R231) -/

/-- A host write of a register other than CTRL leaves CTRL alone, busy or idle (R236). -/
theorem State.ctrl_writeReg (s : State) {r : Reg} (hr : r ≠ .ctrl) (v : Word) : (s.writeReg r v).ctrl = s.ctrl := by
  cases r with
  | ctrl => exact absurd rfl hr
  | _ => rfl

theorem State.ctrl_writeRegBusy (s : State) {r : Reg} (hr : r ≠ .ctrl) (v : Word) :
    (s.writeRegBusy r v).ctrl = s.ctrl := by
  have hreset : ¬(r = .ctrl ∧ srst v = true) := fun h => hr h.1
  rw [State.writeRegBusy, if_neg hreset]
  split <;> rfl

/-- Among host writes only one to CTRL's offset writes CTRL. -/
theorem hostWrite_ctrl {addr : Nat} {width : AccessWidth} {v : Word} {s t : State}
    (h : hostWrite addr width v s = .next t) : target s.cfg addr width = .register .ctrl ∨ t.ctrl = s.ctrl := by
  unfold hostWrite at h
  split at h
  · cases h
  · cases h
  · next r hr =>
    cases h
    by_cases hctrl : r = .ctrl
    · exact .inl (hctrl ▸ hr)
    · right
      split
      · exact s.ctrl_writeRegBusy hctrl v
      · exact s.ctrl_writeReg hctrl v
  · cases h
    right
    split <;> rfl

/-- FRAME_DEC leaves CTRL alone, or ends without error in the section that INFO reports (R177). -/
theorem exec_frameDec_ctrl {s t : State} (h : exec .frameDec s = .next t) :
    t.ctrl = s.ctrl ∨
      (t.status.errcode = .ok ∧ t.info.shb = true ∧ t.ctrl.bov = true ∧ t.ctrl.bo = t.info.detbo) := by
  rw [eq_complete_of_exec h, commandBody]
  rcases frameDecBody_frame s.start with ⟨e, _, _, hbody⟩ | ⟨u, hbody, _, hctrl⟩ <;> rw [hbody]
  · exact .inl rfl
  · refine hctrl.imp_right fun ⟨hopened, hshb⟩ => ⟨rfl, hshb, ?_⟩
    rw [complete_commit, State.finish_ctrl, State.finish_info, hopened]
    exact ⟨rfl, rfl⟩

/-- The engine's turn leaves CTRL alone, or performs a FRAME_DEC that opens a section. -/
theorem engineTurn_ctrl {s t : State} (h : engineTurn s = .next t) :
    t.ctrl = s.ctrl ∨
      (s.status.busy = true ∧ decode s.cmd = .ok .frameDec ∧ t.status.errcode = .ok ∧ t.info.shb = true ∧
        t.ctrl.bov = true ∧ t.ctrl.bo = t.info.detbo) := by
  unfold engineTurn at h
  split at h
  · next hbusy =>
    split at h
    · next i hdecode =>
      by_cases hi : i = .frameDec
      · subst hi
        exact (exec_frameDec_ctrl h).imp_right fun hopened => ⟨hbusy, hdecode, hopened⟩
      · exact .inl ((exec_writesOwn h).ctrl hi)
    · cases h
      exact .inl rfl
  · cases h
    exact .inl rfl

/-- Settles O56: by the kind of turn, CTRL stays as it was or the turn is one of the three. -/
theorem onlyThreeEventsChangeTheByteOrder : Obligations.OnlyThreeEventsChangeTheByteOrder := by
  unfold Obligations.OnlyThreeEventsChangeTheByteOrder
  intro s t hstep hchange
  have hctrl : t.ctrl ≠ s.ctrl := fun h => by simp [h] at hchange
  rcases hturns : s.turns with _ | ⟨turn, ts⟩
  · rw [step, hturns] at hstep
    exact .inr (.inr ⟨.inl rfl, (engineTurn_ctrl hstep).resolve_left hctrl⟩)
  · rw [step_of_turns hturns] at hstep
    cases turn with
    | write addr width v => exact .inl ⟨addr, width, v, ts, rfl, (hostWrite_ctrl hstep).resolve_right hctrl⟩
    | read addr width =>
      obtain ⟨v, rfl⟩ := hostRead_eq_deliver hstep
      exact absurd rfl hctrl
    | hardReset => exact .inr (.inl ⟨ts, rfl⟩)
    | engine => exact .inr (.inr ⟨.inr ⟨ts, rfl⟩, (engineTurn_ctrl hstep).resolve_left hctrl⟩)

end Sys2Proof.Machine

namespace Sys2Proof

open Machine

/-! ### The opcode map (R86)

Every row fixes the eight bits of OP and sets no other bit in its match, and no two rows share an OP. So a word selects at most
one row, the row of its OP, and selects it when the row's reserved bits are 0. -/

theorem opcodeTable_mask_op : ∀ r ∈ opcodeTable, ∀ i < 8, r.mask.getLsbD i = true := by decide

theorem opcodeTable_pattern_above_op : ∀ r ∈ opcodeTable, ∀ i < 32, 8 ≤ i → r.pattern.getLsbD i = false := by decide

theorem opcodeTable_opField_injective :
    ∀ r ∈ opcodeTable, ∀ r' ∈ opcodeTable, opField r.pattern = opField r'.pattern → r = r' := by decide

@[simp] theorem Row.selects_iff (r : Row) (w : BitVec 32) : r.selects w = true ↔ w &&& r.mask = r.pattern := by
  rw [Row.selects, beq_iff_eq]

theorem getLsbD_opField (w : BitVec 32) {i : Nat} (hi : i < 8) : (opField w).getLsbD i = w.getLsbD i := by
  simp [opField, hi]

/-- A selected row has the word's OP. -/
theorem opField_eq_of_selects {r : Row} (hr : r ∈ opcodeTable) {w : BitVec 32} (h : w &&& r.mask = r.pattern) :
    opField r.pattern = opField w := by
  refine BitVec.eq_of_getLsbD_eq fun i hi => ?_
  rw [getLsbD_opField _ hi, getLsbD_opField _ hi, ← h, BitVec.getLsbD_and, opcodeTable_mask_op r hr i hi, Bool.and_true]

/-- A row of the word's OP is selected exactly when no reserved bit is set (R87). -/
theorem selects_iff_of_opField_eq {r : Row} (hr : r ∈ opcodeTable) {w : BitVec 32} (hop : opField r.pattern = opField w) :
    w &&& r.mask = r.pattern ↔ w &&& (r.mask &&& ~~~r.pattern) = 0 := by
  constructor
  · intro h
    rw [← BitVec.and_assoc, h, BitVec.and_not_self]
  · intro h
    refine BitVec.eq_of_getLsbD_eq fun i hi => ?_
    rw [BitVec.getLsbD_and]
    by_cases h8 : i < 8
    · rw [opcodeTable_mask_op r hr i h8, Bool.and_true, ← getLsbD_opField w h8, ← hop, getLsbD_opField _ h8]
    · have hpattern := opcodeTable_pattern_above_op r hr i hi (by omega)
      have hreserved : (w &&& (r.mask &&& ~~~r.pattern)).getLsbD i = false := by rw [h]; exact BitVec.getLsbD_zero
      rw [hpattern]
      simpa only [BitVec.getLsbD_and, BitVec.getLsbD_not, hpattern, hi, decide_true, Bool.not_false, Bool.and_true]
        using hreserved

theorem eq_of_selects {w : BitVec 32} {r r' : Row} (hr : r ∈ opcodeTable) (hr' : r' ∈ opcodeTable)
    (h : w &&& r.mask = r.pattern) (h' : w &&& r'.mask = r'.pattern) : r = r' :=
  opcodeTable_opField_injective r hr r' hr' ((opField_eq_of_selects hr h).trans (opField_eq_of_selects hr' h').symm)

/-- Settles O1: both rows have the word's OP, and no two rows share one. -/
theorem everyWordSelectsAtMostOneRow : Obligations.EveryWordSelectsAtMostOneRow := by
  unfold Obligations.EveryWordSelectsAtMostOneRow
  exact fun w r r' => eq_of_selects

/-! ### The decoder (R86, R87) -/

theorem decode_eq_ok_iff {w : BitVec 32} {i : Instr} :
    decode w = .ok i ↔ ∃ r ∈ opcodeTable, w &&& r.mask = r.pattern ∧ r.op.assemble w = i := by
  unfold decode
  cases hfind : opcodeTable.find? (fun r => r.selects w) with
  | none =>
    have hnone : ∀ r ∈ opcodeTable, w &&& r.mask ≠ r.pattern := by simpa using hfind
    refine ⟨fun h => ?_, fun ⟨r, hr, hsel, _⟩ => absurd hsel (hnone r hr)⟩
    dsimp only at h
    split at h <;> cases h
  | some r =>
    have hr := List.mem_of_find?_eq_some hfind
    have hsel := (r.selects_iff w).1 (List.find?_some (p := fun r : Row => r.selects w) hfind)
    refine ⟨fun h => ⟨r, hr, hsel, Except.ok.inj h⟩, fun ⟨r', hr', hsel', h⟩ => ?_⟩
    rw [← h, eq_of_selects hr' hr hsel' hsel]

/-- A word is rejected exactly when it selects no row. -/
theorem decode_eq_error_iff {w : BitVec 32} :
    (∃ e, decode w = .error e) ↔ ∀ r ∈ opcodeTable, w &&& r.mask ≠ r.pattern := by
  constructor
  · intro ⟨e, he⟩ r hr hsel
    rw [decode_eq_ok_iff.2 ⟨r, hr, hsel, rfl⟩] at he
    cases he
  · intro h
    cases hw : decode w with
    | error e => exact ⟨e, rfl⟩
    | ok i =>
      obtain ⟨r, hr, hsel, _⟩ := decode_eq_ok_iff.1 hw
      exact absurd hsel (h r hr)

/-- R87's two cases of an illegal word. -/
theorem decode_eq_error_iff_fields {w : BitVec 32} :
    (∃ e, decode w = .error e) ↔
      (∀ r ∈ opcodeTable, opField r.pattern ≠ opField w) ∨
      (∃ r ∈ opcodeTable, opField r.pattern = opField w ∧ w &&& (r.mask &&& ~~~r.pattern) ≠ 0) := by
  rw [decode_eq_error_iff]
  constructor
  · intro hnone
    by_cases hop : ∃ r ∈ opcodeTable, opField r.pattern = opField w
    · obtain ⟨r, hr, hop⟩ := hop
      exact .inr ⟨r, hr, hop, fun h => hnone r hr ((selects_iff_of_opField_eq hr hop).2 h)⟩
    · exact .inl fun r hr h => hop ⟨r, hr, h⟩
  · rintro (hop | ⟨r, hr, hop, hreserved⟩) r' hr' hsel
    · exact hop r' hr' (opField_eq_of_selects hr' hsel)
    · have hrow : r = r' := opcodeTable_opField_injective r hr r' hr' (hop.trans (opField_eq_of_selects hr' hsel).symm)
      exact hreserved ((selects_iff_of_opField_eq hr hop).1 (hrow ▸ hsel))

/-- The engine's turn on an illegal word: ILLEGAL_CMD and nothing else (R87). -/
theorem engineTurn_illegal {s : State} {e : DecodeError} (hbusy : s.status.busy = true) (he : decode s.cmd = .error e) :
    engineTurn s = .next (s.failedWith .illegalCmd) := by
  rw [engineTurn_eq hbusy, latchedBody, he]
  simp [State.finish, State.start, State.failedWith, Status.failed, complete]

/-- Settles O2: R87's cases are the words that select no row; CMD latches every word, and `latchedBody` raises ILLEGAL_CMD. -/
theorem illegalWordsCompleteWithIllegalCmd : Obligations.IllegalWordsCompleteWithIllegalCmd := by
  unfold Obligations.IllegalWordsCompleteWithIllegalCmd
  intro w
  refine ⟨decode_eq_error_iff_fields, fun ⟨e, he⟩ s => ⟨fun v hv hidle => ?_, fun hbusy hcmd => ?_⟩⟩
  · rw [hostWrite_register_idle (r := .cmd) v hidle rfl, State.writeReg, hv]
  · exact engineTurn_illegal hbusy (hcmd ▸ he)

/-! ### The fields of a word (R81 to R84) -/

theorem IntWidth.code_injective {a b : IntWidth} (h : a.code = b.code) : a = b := by
  revert h
  cases a <;> cases b <;> decide

theorem IntWidth.code_lt (width : IntWidth) : width.code < 4 := by
  cases width <;> decide

/-- WC as the number in bits 9:8. -/
theorem code_wcField (w : BitVec 32) : (wcField w).code = (w.extractLsb' 8 2).toNat := by
  unfold wcField
  generalize w.extractLsb' 8 2 = c
  revert c
  decide

/-- S as the number in bit 12. -/
theorem toNat_sField (w : BitVec 32) : (sField w).toNat = (w.extractLsb' 12 1).toNat := by
  rw [sField, ← BitVec.testBit_toNat, Nat.toNat_testBit, BitVec.extractLsb'_toNat, Nat.shiftRight_eq_div_pow, pow_one]

theorem fidxField_lt (w : BitVec 32) : fidxField w < 16 := (w.extractLsb' 16 4).isLt

/-- FIDX has four bits, so what an opcode assembles from a word is well formed, whatever the word (R84). -/
theorem wellFormed_assemble (op : Op) (w : BitVec 32) : (op.assemble w).WellFormed := by
  cases op with
  | flagGet | flagSet => exact decide_eq_true (fidxField_lt w)
  | _ => rfl

/-- A field's number put back where it was taken. -/
theorem ofNat_two_pow_mul_extractLsb' (w : BitVec 32) (pos n : Nat) :
    BitVec.ofNat 32 (2 ^ pos * (w.extractLsb' pos n).toNat) = w &&& (BitVec.allOnes n).setWidth 32 <<< pos := by
  refine BitVec.eq_of_getLsbD_eq fun i hi => ?_
  rw [BitVec.getLsbD_ofNat, Nat.testBit_two_pow_mul, BitVec.testBit_toNat, BitVec.getLsbD_extractLsb']
  by_cases h : pos ≤ i
  · simp [h, hi, show ¬i < pos by omega, Bool.and_comm]
  · simp [h]

/-! A format's word put together from the fields of `w` has `w`'s bits outside the mask of the format's rows. -/

theorem formatN_eq_or (op : Nat) (w : BitVec 32) : formatN op = BitVec.ofNat 32 op ||| (w &&& ~~~0xFFFFFFFF#32) := by
  simp [formatN]

theorem formatI_fields_eq_or {op : Nat} (hop : op < 256) (w : BitVec 32) :
    formatI op (wcField w) (sField w) = BitVec.ofNat 32 op ||| (w &&& ~~~0xFFFFECFF#32) := by
  have hwc := (w.extractLsb' 8 2).isLt
  rw [formatI, code_wcField, toNat_sField, Nat.add_comm, Nat.two_pow_add_eq_or_of_lt (by omega), Nat.add_comm,
    Nat.two_pow_add_eq_or_of_lt (by omega), BitVec.ofNat_or, BitVec.ofNat_or, ofNat_two_pow_mul_extractLsb',
    ofNat_two_pow_mul_extractLsb', ← BitVec.or_assoc, ← BitVec.and_or_distrib_left, BitVec.or_comm]
  rfl

theorem formatF_fidxField_eq_or {op : Nat} (hop : op < 256) (w : BitVec 32) :
    formatF op (fidxField w) = BitVec.ofNat 32 op ||| (w &&& ~~~0xFFF0FFFF#32) := by
  rw [formatF, fidxField, Nat.add_comm, Nat.two_pow_add_eq_or_of_lt (by omega), BitVec.ofNat_or,
    ofNat_two_pow_mul_extractLsb', BitVec.or_comm]
  rfl

/-! The fields of a format's word are the fields it was put together from. -/

theorem wcField_formatI {op : Nat} (hop : op < 256) (width : IntWidth) (signed : Bool) :
    wcField (formatI op width signed) = width := by
  have hwidth := width.code_lt
  have hsigned := signed.toNat_lt
  refine IntWidth.code_injective ?_
  rw [code_wcField, formatI, BitVec.extractLsb'_toNat, BitVec.toNat_ofNat, Nat.shiftRight_eq_div_pow]
  omega

theorem sField_formatI {op : Nat} (hop : op < 256) (width : IntWidth) (signed : Bool) :
    sField (formatI op width signed) = signed := by
  have hwidth := width.code_lt
  have hsigned := signed.toNat_lt
  rw [Bool.eq_iff_iff, ← Bool.toNat_eq_one, ← Bool.toNat_eq_one, toNat_sField, formatI, BitVec.extractLsb'_toNat,
    BitVec.toNat_ofNat, Nat.shiftRight_eq_div_pow]
  omega

theorem fidxField_formatF {op fidx : Nat} (hop : op < 256) (hfidx : fidx < 16) : fidxField (formatF op fidx) = fidx := by
  rw [fidxField, formatF, BitVec.extractLsb'_toNat, BitVec.toNat_ofNat, Nat.shiftRight_eq_div_pow]
  omega

/-! ### The round trip -/

theorem exists_assemble_encode {i : Instr} (h : i.WellFormed) : ∃ op : Op, op.assemble (encode i) = i := by
  cases i with
  | nop => exact ⟨.nop, rfl⟩
  | intDec width signed =>
    exact ⟨.intDec, congrArg₂ Instr.intDec (wcField_formatI (by decide) _ _) (sField_formatI (by decide) _ _)⟩
  | intEnc width signed =>
    exact ⟨.intEnc, congrArg₂ Instr.intEnc (wcField_formatI (by decide) _ _) (sField_formatI (by decide) _ _)⟩
  | flagConfig => exact ⟨.flagConfig, rfl⟩
  | flagGet fidx => exact ⟨.flagGet, congrArg Instr.flagGet (fidxField_formatF (by decide) (of_decide_eq_true h))⟩
  | flagSet fidx => exact ⟨.flagSet, congrArg Instr.flagSet (fidxField_formatF (by decide) (of_decide_eq_true h))⟩
  | optBegin => exact ⟨.optBegin, rfl⟩
  | optDec => exact ⟨.optDec, rfl⟩
  | optEnc => exact ⟨.optEnc, rfl⟩
  | optEnd => exact ⟨.optEnd, rfl⟩
  | frameEnc => exact ⟨.frameEnc, rfl⟩
  | frameDec => exact ⟨.frameDec, rfl⟩

theorem exists_row (op : Op) : ∃ r ∈ opcodeTable, r.op = op := by
  cases op <;> decide

theorem opcodeTable_pattern_mask : ∀ r ∈ opcodeTable, r.pattern &&& r.mask = r.pattern := by decide

/-- What a row assembles from a word has the row's match and the word's bits outside the mask. -/
theorem encode_assemble (w : BitVec 32) :
    ∀ r ∈ opcodeTable, encode (r.op.assemble w) = r.pattern ||| (w &&& ~~~r.mask) := by
  simp only [opcodeTable, List.forall_mem_cons]
  exact ⟨formatN_eq_or _ w, formatI_fields_eq_or (by decide) w, formatI_fields_eq_or (by decide) w, formatN_eq_or _ w,
    formatF_fidxField_eq_or (by decide) w, formatF_fidxField_eq_or (by decide) w, formatN_eq_or _ w, formatN_eq_or _ w,
    formatN_eq_or _ w, formatN_eq_or _ w, formatN_eq_or _ w, formatN_eq_or _ w, nofun⟩

/-- A word selects a row exactly when it is the word of the command the row assembles from it. -/
theorem selects_iff_encode_assemble {r : Row} (hr : r ∈ opcodeTable) {w : BitVec 32} :
    w &&& r.mask = r.pattern ↔ encode (r.op.assemble w) = w := by
  rw [encode_assemble w r hr]
  constructor
  · intro h
    rw [← h, ← BitVec.and_or_distrib_left, BitVec.or_not_self, BitVec.and_allOnes]
  · intro h
    rw [← h, BitVec.and_or_distrib_right, BitVec.and_assoc, BitVec.not_and_self]
    simp [opcodeTable_pattern_mask r hr]

/-- Settles O4: the word selects a row, so it is the word of what the row assembles. -/
theorem encodeOfDecodeGivesTheWord : Obligations.EncodeOfDecodeGivesTheWord := by
  unfold Obligations.EncodeOfDecodeGivesTheWord
  intro w i h
  obtain ⟨r, hr, hsel, rfl⟩ := decode_eq_ok_iff.1 h
  exact ⟨wellFormed_assemble r.op w, (selects_iff_encode_assemble hr).1 hsel⟩

/-- Settles O3: the command's row assembles it from its word, so the word selects that row. -/
theorem decodeOfEncodeGivesTheCommand : Obligations.DecodeOfEncodeGivesTheCommand := by
  unfold Obligations.DecodeOfEncodeGivesTheCommand
  intro i h
  obtain ⟨op, hop⟩ := exists_assemble_encode h
  obtain ⟨r, hr, rfl⟩ := exists_row op
  exact decode_eq_ok_iff.2 ⟨r, hr, (selects_iff_encode_assemble hr).2 (congrArg encode hop), hop⟩

/-- Settles O5: each word selects its row. -/
theorem writtenOutWordsDecode : Obligations.WrittenOutWordsDecode := by
  unfold Obligations.WrittenOutWordsDecode
  decide

end Sys2Proof

namespace Sys2Proof

open Machine

/-! ### The words of NOP and of the integer commands (R81, R82, R87, R101 to R103) -/

/-- A word of a row's OP that does not select the row has a reserved bit set (R87). -/
theorem decode_eq_reservedBits {w : BitVec 32} {r : Row} (hr : r ∈ opcodeTable) (hop : opField r.pattern = opField w)
    (hsel : w &&& r.mask ≠ r.pattern) : decode w = .error .reservedBits := by
  have hnone : opcodeTable.find? (fun r' => r'.selects w) = none := by
    refine List.find?_eq_none.2 fun r' hr' hsel' => ?_
    have hsel' := (r'.selects_iff w).1 hsel'
    have hrow : r = r' := opcodeTable_opField_injective r hr r' hr' (hop.trans (opField_eq_of_selects hr' hsel').symm)
    exact hsel (hrow ▸ hsel')
  have hany : opcodeTable.any (fun r' => opField r'.pattern == opField w) = true :=
    List.any_eq_true.2 ⟨r, hr, beq_iff_eq.2 hop⟩
  unfold decode
  rw [hnone]
  exact if_pos hany

theorem IntWidth.bytes_eq_two_pow_iff (width : IntWidth) (wc : Nat) : width.bytes = 2 ^ wc ↔ wc = width.code := by
  have h : width.bytes = 2 ^ width.code := by cases width <;> rfl
  rw [h, Nat.pow_right_inj (by decide), eq_comm]

theorem IntWidth.eight_mul_bytes_le (width : IntWidth) : 8 * width.bytes ≤ 64 := by cases width <;> decide

theorem IntWidth.eight_mul_bytes_pos (width : IntWidth) : 0 < 8 * width.bytes := by cases width <;> decide

end Sys2Proof

namespace Sys2Proof.Machine

/-! ### Completions (R212, R214) -/

theorem State.finish_ok (s : State) : s.finish .ok = { s with status := s.status.succeeded } := by
  simp [State.finish, Status.succeeded]

theorem State.start_finish_error (s : State) {e : ErrorCode} (h : e ≠ .ok) : s.start.finish e = s.failedWith e := by
  simp [State.finish, State.start, State.failedWith, Status.failed, h]

/-- Settles O17: NOP's row fixes every bit, and NOP commits the state its start left. -/
theorem nopOnlyCompletes : Obligations.NopOnlyCompletes := by
  unfold Obligations.NopOnlyCompletes
  refine ⟨by decide, fun w hop hw => ?_, fun s => ?_⟩
  · have hrow : (⟨"NOP", .nop, 0x00000000, 0xFFFFFFFF⟩ : Row) ∈ opcodeTable := List.mem_cons_self
    exact decode_eq_reservedBits hrow hop.symm (ne_of_eq_of_ne BitVec.and_allOnes hw)
  · rw [exec_eq]
    exact congrArg Host.Outcome.next s.start.finish_ok

/-! ### The checks of INT_DEC and INT_ENC (R102, R103) -/

/-- How the pseudocode of INT_DEC and of INT_ENC ends on `s`: by its three checks for `n` bytes, or with `staged`. -/
def IntegerBodyEnd (s : State) (n : Nat) (staged : State) (e : CmdEnd) : Prop :=
  (s.ctrl.bov = false ∧ e = .raise .noSection none) ∨
  (s.ctrl.bov = true ∧ (s.CursorBad ∨ s.cursor + n > s.limit) ∧ e = .raise .bounds none) ∨
  (s.ctrl.bov = true ∧ s.limit ≤ s.cfg.bufBytes ∧ s.cursor + n ≤ s.limit ∧ e = .commit staged)

section
variable {i : Instr} {s staged : State} {n : Nat} (h : IntegerBodyEnd s.start n staged (commandBody i s.start))
include h

theorem IntegerBodyEnd.exec_noSection (hbov : s.ctrl.bov = false) : exec i s = .next (s.failedWith .noSection) := by
  rw [exec_eq]
  obtain ⟨_, he⟩ | ⟨hbov', _⟩ | ⟨hbov', _⟩ := h
  · rw [he, complete_raise_none, State.start_finish_error s (by decide)]
  · exact absurd (hbov'.symm.trans hbov) (by decide)
  · exact absurd (hbov'.symm.trans hbov) (by decide)

theorem IntegerBodyEnd.exec_bounds (hbov : s.ctrl.bov = true)
    (hbounds : s.limit > s.cfg.bufBytes ∨ s.cursor > s.limit ∨ s.cursor + n > s.limit) :
    exec i s = .next (s.failedWith .bounds) := by
  rw [exec_eq]
  obtain ⟨hbov', _⟩ | ⟨_, _, he⟩ | ⟨_, hlimit, hfits, _⟩ := h
  · exact absurd (hbov'.symm.trans hbov) (by decide)
  · rw [he, complete_raise_none, State.start_finish_error s (by decide)]
  · simp only [State.limit_start, State.cursor_start, State.start_cfg] at hlimit hfits
    omega

theorem IntegerBodyEnd.exec_fits (hbov : s.ctrl.bov = true) (hlimit : s.limit ≤ s.cfg.bufBytes)
    (hfits : s.cursor + n ≤ s.limit) : exec i s = .next { staged with status := staged.status.succeeded } := by
  rw [exec_eq]
  obtain ⟨hbov', _⟩ | ⟨_, hbounds, _⟩ | ⟨_, _, _, he⟩ := h
  · exact absurd (hbov'.symm.trans hbov) (by decide)
  · simp only [State.CursorBad, State.limit_start, State.cursor_start, State.start_cfg] at hbounds
    omega
  · rw [he, complete_commit, State.finish_ok]

end

theorem integerBodyEnd_intDec (width : IntWidth) (signed : Bool) (s : State) :
    IntegerBodyEnd s width.bytes
      { s with
        res0 := decodedValue width signed (s.loadInt s.ctrl.bo s.cursor width.bytes)
        res3 := BitVec.ofNat 64 (s.cursor + width.bytes) }
      (commandBody (.intDec width signed) s) :=
  intDecBody_cases width signed s

theorem integerBodyEnd_intEnc (width : IntWidth) (signed : Bool) (s : State) :
    IntegerBodyEnd s width.bytes
      { s.store s.cursor (toBytes (truncated width s) width.bytes s.ctrl.bo) with
        res0 := BitVec.ofNat 64 (truncated width s)
        res3 := BitVec.ofNat 64 (s.cursor + width.bytes) }
      (commandBody (.intEnc width signed) s) :=
  intEncBody_cases width s

/-- INT_DEC's effect when its bytes fit (R102). -/
theorem exec_intDec_fits {s : State} {width : IntWidth} (signed : Bool) (hbov : s.ctrl.bov = true)
    (hlimit : s.limit ≤ s.cfg.bufBytes) (hfits : s.cursor + width.bytes ≤ s.limit) :
    exec (.intDec width signed) s = .next { s with
      res0 := decodedValue width signed (s.loadInt s.ctrl.bo s.cursor width.bytes)
      res3 := BitVec.ofNat 64 (s.cursor + width.bytes)
      info := Info.zero
      status := s.status.succeeded } :=
  (integerBodyEnd_intDec width signed s.start).exec_fits hbov hlimit hfits

/-- INT_ENC's effect when its bytes fit (R103). -/
theorem exec_intEnc_fits {s : State} {width : IntWidth} (signed : Bool) (hbov : s.ctrl.bov = true)
    (hlimit : s.limit ≤ s.cfg.bufBytes) (hfits : s.cursor + width.bytes ≤ s.limit) :
    exec (.intEnc width signed) s = .next { s.store s.cursor (toBytes (truncated width s) width.bytes s.ctrl.bo) with
      res0 := BitVec.ofNat 64 (truncated width s)
      res3 := BitVec.ofNat 64 (s.cursor + width.bytes)
      info := Info.zero
      status := s.status.succeeded } :=
  (integerBodyEnd_intEnc width signed s.start).exec_fits hbov hlimit hfits

/-! ### Values of w bits (R17, R83) -/

theorem pow_256_eq_two_pow (n : Nat) : 256 ^ n = 2 ^ (8 * n) := by rw [Nat.pow_mul]

/-- Sign extension takes the w bits of a word to the word with the signed value they spell (R17). -/
theorem sext_toNat {w : Nat} (hw : 0 < w) (x : BitVec w) : sext w x.toNat = x.signExtend 64 := by
  have hpow : 2 ^ w = 2 * 2 ^ (w - 1) := by rw [← Nat.pow_succ', Nat.succ_eq_add_one, Nat.sub_add_cancel hw]
  rw [BitVec.signExtend, BitVec.toInt_eq_toNat_cond, sext]
  push_cast
  simp only [hpow, Nat.mul_lt_mul_left (Nat.two_pos)]

/-- A signed value of w bits is its low w bits, sign-extended. -/
theorem sext_toNat_mod {w : Nat} (hpos : 0 < w) (hw : w ≤ 64) {v : Word} (hlo : -(2 ^ (w - 1) : Int) ≤ v.toInt)
    (hhi : v.toInt < 2 ^ (w - 1)) : sext w (v.toNat % 2 ^ w) = v := by
  have hpow : ((2 ^ w : Nat) : Int) = 2 ^ (w - 1) * 2 := by rw [← pow_succ, Nat.sub_add_cancel hpos]; norm_cast
  have hint : (v.setWidth w).toInt = v.toInt := calc
    (v.setWidth w).toInt = (v.toInt).bmod (2 ^ w) := by
      rw [BitVec.toInt_setWidth, BitVec.toInt_eq_toNat_bmod, Int.bmod_bmod_of_dvd (Nat.pow_dvd_pow 2 hw)]
    _ = v.toInt := Int.bmod_eq_of_le_mul_two (by rw [hpow]; omega) (by rw [hpow]; omega)
  rw [← BitVec.toNat_setWidth, sext_toNat hpos, BitVec.signExtend, hint, BitVec.ofInt_toInt]

/-- Sign extension adds the ones above bit w - 1 (R17). -/
theorem sext_toNat_eq_ofNat {w : Nat} (hpos : 0 < w) (hw : w ≤ 64) (x : BitVec w) :
    sext w x.toNat = BitVec.ofNat 64 (if 2 ^ (w - 1) ≤ x.toNat then x.toNat + (2 ^ 64 - 2 ^ w) else x.toNat) := by
  have hpow : 2 ^ w ≤ 2 ^ 64 := Nat.pow_le_pow_right (by decide) hw
  have hx := x.isLt
  refine BitVec.eq_of_toNat_eq ?_
  rw [sext_toNat hpos, BitVec.toNat_signExtend, BitVec.toNat_setWidth, BitVec.msb_eq_decide, BitVec.toNat_ofNat]
  by_cases h : 2 ^ (w - 1) ≤ x.toNat
  · rw [if_pos (decide_eq_true h), if_pos h]
    omega
  · rw [if_neg (by simpa using h), if_neg h, Nat.add_zero]

theorem decodedValue_eq_ofNat {width : IntWidth} (signed : Bool) {u : Nat} (hu : u < 2 ^ (8 * width.bytes)) :
    decodedValue width signed u = BitVec.ofNat 64
      (if signed = true ∧ 2 ^ (8 * width.bytes - 1) ≤ u then u + (2 ^ 64 - 2 ^ (8 * width.bytes)) else u) := by
  cases signed with
  | false => simp [decodedValue]
  | true =>
    have hsext := sext_toNat_eq_ofNat width.eight_mul_bytes_pos width.eight_mul_bytes_le (BitVec.ofNatLT u hu)
    simpa [decodedValue] using hsext

theorem truncated_lt (width : IntWidth) (s : State) : truncated width s < 2 ^ (8 * width.bytes) :=
  Nat.mod_lt _ (Nat.two_pow_pos _)

/-! ### The bytes of a value (R17) -/

theorem toBytesLE_mod (n v : Nat) : toBytesLE n (v % 256 ^ n) = toBytesLE n v := by
  induction n generalizing v with
  | zero => rfl
  | succ n ih =>
    have hhead : BitVec.ofNat 8 (v % (256 * 256 ^ n)) = BitVec.ofNat 8 v :=
      BitVec.eq_of_toNat_eq (Nat.mod_mul_right_mod v 256 (256 ^ n))
    rw [toBytesLE, toBytesLE, Nat.pow_succ', hhead, Nat.mod_mul_right_div_self, ih]

/-- ToBytes reads the low n bytes of its value only. -/
theorem toBytes_mod (v n : Nat) (ord : ByteOrder) : toBytes (v % 256 ^ n) n ord = toBytes v n ord := by
  cases ord <;> simp only [toBytes, toBytesLE_mod]

theorem toBytes_truncated (width : IntWidth) (s : State) (ord : ByteOrder) :
    toBytes (truncated width s) width.bytes ord = toBytes s.arg2.toNat width.bytes ord := by
  rw [truncated, ← pow_256_eq_two_pow]
  exact toBytes_mod _ _ _

/-- Byte k that ToBytes stored. -/
theorem State.byteAt_store_toBytes (s : State) (a v : Nat) {n k : Nat} (ord : ByteOrder) (h : k < n) :
    (s.store a (toBytes v n ord)).byteAt (a + k) = BitVec.ofNat 8 (v / 256 ^ (if ord = .le then k else n - 1 - k)) := by
  rw [State.byteAt_store, toBytes_length, if_pos (by omega), Nat.add_sub_cancel_left, toBytes_getElem? _ _ _ _ h,
    Option.getD_some]

/-! ### The integer commands (R102 to R104) -/

/-- Settles O18: the ends of R102's pseudocode, its value by `decodedValue_eq_ofNat`, its word by the round trip of the encoder. -/
theorem intDecDecodesOneInteger : Obligations.IntDecDecodesOneInteger := by
  unfold Obligations.IntDecDecodesOneInteger
  intro s width signed
  have hend := integerBodyEnd_intDec width signed s.start
  refine ⟨fun wc hwc => ?_, hend.exec_noSection, hend.exec_bounds, fun hbov hlimit hfits => ?_⟩
  · obtain rfl := (width.bytes_eq_two_pow_iff wc).1 hwc
    exact decodeOfEncodeGivesTheCommand (.intDec width signed) rfl
  · have hu : s.loadInt s.ctrl.bo s.cursor width.bytes < 2 ^ (8 * width.bytes) := pow_256_eq_two_pow _ ▸ s.loadInt_lt _ _ _
    refine ⟨_, rfl, hu, ?_⟩
    rw [exec_intDec_fits signed hbov hlimit hfits, decodedValue_eq_ofNat signed hu]
    rfl

/-- Settles O19: the ends of R103's pseudocode; the bytes stored are those of the low bits of ARG2. -/
theorem intEncEncodesOneInteger : Obligations.IntEncEncodesOneInteger := by
  unfold Obligations.IntEncEncodesOneInteger
  intro s width signed
  have hend := integerBodyEnd_intEnc width signed s.start
  refine ⟨fun wc hwc => ?_, hend.exec_noSection, hend.exec_bounds, fun hbov hlimit hfits => ?_⟩
  · obtain rfl := (width.bytes_eq_two_pow_iff wc).1 hwc
    exact decodeOfEncodeGivesTheCommand (.intEnc width signed) rfl
  · have hexec := exec_intEnc_fits signed hbov hlimit hfits
    rw [toBytes_truncated] at hexec
    refine ⟨_, hexec, rfl, fun k hk => ?_, fun a ha => ?_⟩
    · exact s.byteAt_store_toBytes s.cursor s.arg2.toNat s.ctrl.bo hk
    · exact s.byteAt_store_outside (by rwa [toBytes_length])

/-- INT_DEC after INT_ENC at the same place: RES0 is the reading of the low bits of ARG2 (R104). -/
theorem exec_intDec_of_exec_intEnc {s t : State} {width : IntWidth} {signed : Bool} (signed' : Bool)
    (hbov : s.ctrl.bov = true) (hlimit : s.limit ≤ s.cfg.bufBytes) (hfits : s.cursor + width.bytes ≤ s.limit)
    (ht : exec (.intEnc width signed) s = .next t) :
    ∃ u, exec (.intDec width signed') t = .next u ∧ u.status.errcode = .ok ∧
      u.res0 = decodedValue width signed' (truncated width s) := by
  rw [exec_intEnc_fits signed hbov hlimit hfits] at ht
  obtain rfl := Host.Outcome.next.inj ht
  refine ⟨_, exec_intDec_fits signed' hbov hlimit hfits, rfl, congrArg (decodedValue width signed') ?_⟩
  exact (s.loadInt_store s.ctrl.bo s.cursor _ width.bytes).trans
    (Nat.mod_eq_of_lt (pow_256_eq_two_pow _ ▸ truncated_lt width s))

/-- Settles O20: INT_DEC reads back the low bits of ARG2; unsigned they fit RES0, and a signed value is their sign extension. -/
theorem integersRoundTrip : Obligations.IntegersRoundTrip := by
  unfold Obligations.IntegersRoundTrip
  intro s width signed hbov hlimit hfits
  have ht := exec_intEnc_fits signed hbov hlimit hfits
  refine ⟨_, ht, ?_, fun hlo hhi => ?_⟩
  · obtain ⟨u, hu, hok, hres⟩ := exec_intDec_of_exec_intEnc false hbov hlimit hfits ht
    refine ⟨u, hu, hok, ?_⟩
    rw [hres]
    exact Nat.mod_eq_of_lt ((truncated_lt width s).trans_le (Nat.pow_le_pow_right (by decide) width.eight_mul_bytes_le))
  · obtain ⟨u, hu, hok, hres⟩ := exec_intDec_of_exec_intEnc true hbov hlimit hfits ht
    refine ⟨u, hu, hok, hres.trans ?_⟩
    exact sext_toNat_mod width.eight_mul_bytes_pos width.eight_mul_bytes_le hlo hhi

end Sys2Proof.Machine

namespace Sys2Proof

/-! ### The words of FLAG_GET and FLAG_SET (R81, R122, R123) -/

theorem formatF_eq_or {op : Nat} (h : op < 2 ^ 16) (fidx : Nat) :
    formatF op fidx = BitVec.ofNat 32 op ||| (BitVec.ofNat 32 fidx <<< 16) := by
  have hshift : BitVec.ofNat 32 (2 ^ 16 * fidx) = BitVec.ofNat 32 fidx <<< 16 := by
    rw [BitVec.shiftLeft_eq_mul_twoPow, BitVec.ofNat_mul, BitVec.mul_comm]
    rfl
  rw [formatF, Nat.add_comm, Nat.two_pow_add_eq_or_of_lt h, BitVec.ofNat_or, BitVec.or_comm, hshift]

end Sys2Proof

namespace Sys2Proof.Machine

/-! ### The end of a command by its body's end (R211, R212) -/

section
variable (i : Instr) (s : State)

theorem exec_of_commandBody_raise {e : ErrorCode} (he : e ≠ .ok) (h : commandBody i s.start = .raise e none) :
    exec i s = .next (s.failedWith e) := by
  rw [exec_eq, h, complete_raise_none, State.start_finish_error s he]

theorem exec_of_commandBody_commit {u : State} (h : commandBody i s.start = .commit u) :
    exec i s = .next { u with status := u.status.succeeded } := by
  rw [exec_eq, h, complete_commit, State.finish_ok]

end

/-! ### The check on one sub-field (R121) -/

/-- Settles O21: one case for each kind. -/
theorem subfieldChecksAreThoseOfFlagConfig : Obligations.SubfieldChecksAreThoseOfFlagConfig := by
  unfold Obligations.SubfieldChecksAreThoseOfFlagConfig
  rintro ⟨kind, width, nsym, offset⟩
  cases kind <;> simp [FwField.legal, and_assoc]

/-! ### The bits of a sub-field (R17, R120, R122 to R124) -/

theorem getLsbD_ones (n : Nat) {k : Nat} (hk : k < 64) : (ones n).getLsbD k = decide (k < n) := by
  rw [ones, BitVec.getLsbD_ofNat, Nat.testBit_two_pow_sub_one, decide_eq_true hk, Bool.true_and]

theorem toNat_and_ones (v : Word) (n : Nat) : (v &&& ones n).toNat = v.toNat % 2 ^ n := by
  refine Nat.eq_of_testBit_eq fun k => ?_
  rw [Nat.testBit_mod_two_pow, BitVec.testBit_toNat, BitVec.testBit_toNat, BitVec.getLsbD_and, Bool.and_comm]
  by_cases hk : k < 64
  · rw [getLsbD_ones n hk]
  · rw [BitVec.getLsbD_of_ge v k (by omega), Bool.and_false, Bool.and_false]

theorem getLsbD_eq_false_of_toNat_lt {b : Word} {n k : Nat} (hb : b.toNat < 2 ^ n) (hk : n ≤ k) : b.getLsbD k = false := by
  rw [← BitVec.testBit_toNat]
  exact Nat.testBit_lt_two_pow (hb.trans_le (Nat.pow_le_pow_right (by decide) hk))

theorem FwField.getLsbD_extract (f : FwField) (v : Word) {k : Nat} (hk : k < 64) :
    (f.extract v).getLsbD k = (decide (k < f.width.toNat) && v.getLsbD (f.offset.toNat + k)) := by
  rw [FwField.extract, BitVec.getLsbD_and, BitVec.getLsbD_ushiftRight, getLsbD_ones _ hk, Bool.and_comm]

theorem FwField.getLsbD_insert (f : FwField) (old : Word) {b : Word} (hb : b.toNat < 2 ^ f.width.toNat) {k : Nat}
    (hk : k < 64) :
    (f.insert old b).getLsbD k =
      if f.offset.toNat ≤ k ∧ k < f.offset.toNat + f.width.toNat then b.getLsbD (k - f.offset.toNat)
      else old.getLsbD k := by
  have hones : (ones f.width.toNat).getLsbD (k - f.offset.toNat) = decide (k - f.offset.toNat < f.width.toNat) :=
    getLsbD_ones _ (by omega)
  simp only [FwField.insert, BitVec.getLsbD_or, BitVec.getLsbD_and, BitVec.getLsbD_not, BitVec.getLsbD_shiftLeft, hones,
    decide_eq_true hk, Bool.true_and]
  by_cases hlow : k < f.offset.toNat
  · simp [hlow, not_le.2 hlow]
  · by_cases hhigh : k < f.offset.toNat + f.width.toNat
    · simp [hlow, hhigh, not_lt.1 hlow, show k - f.offset.toNat < f.width.toNat by omega]
    · simp [hhigh, getLsbD_eq_false_of_toNat_lt hb (k := k - f.offset.toNat) (by omega),
        show ¬k - f.offset.toNat < f.width.toNat by omega]

/-- What a sub-field holds is what was put in it (R122, R123). -/
theorem FwField.extract_insert_self {f : FwField} (old : Word) {b : Word} (hb : b.toNat < 2 ^ f.width.toNat)
    (hend : f.offset.toNat + f.width.toNat ≤ 64) : f.extract (f.insert old b) = b := by
  refine BitVec.eq_of_getLsbD_eq fun k hk => ?_
  rw [FwField.getLsbD_extract f _ hk]
  by_cases hin : k < f.width.toNat
  · rw [FwField.getLsbD_insert f old hb (by omega), if_pos (by omega), Nat.add_sub_cancel_left, decide_eq_true hin,
      Bool.true_and]
  · rw [decide_eq_false hin, Bool.false_and, getLsbD_eq_false_of_toNat_lt hb (not_lt.1 hin)]

/-- A write of one sub-field is not seen in another that shares no bit with it (R124). -/
theorem FwField.extract_insert_of_disjoint {f g : FwField} (old : Word) {b : Word} (hb : b.toNat < 2 ^ f.width.toNat)
    (hend : g.offset.toNat + g.width.toNat ≤ 64)
    (hfg : f.offset.toNat + f.width.toNat ≤ g.offset.toNat ∨ g.offset.toNat + g.width.toNat ≤ f.offset.toNat) :
    g.extract (f.insert old b) = g.extract old := by
  refine BitVec.eq_of_getLsbD_eq fun k hk => ?_
  rw [FwField.getLsbD_extract g _ hk, FwField.getLsbD_extract g _ hk]
  by_cases hin : k < g.width.toNat
  · rw [FwField.getLsbD_insert f old hb (by omega), if_neg (by omega)]
  · rw [decide_eq_false hin, Bool.false_and, Bool.false_and]

theorem FwField.toNat_coerce (f : FwField) (v : Word) :
    (f.coerce v).toNat = if f.kind = .bool then (if v = 0 then 0 else 1) else v.toNat % 2 ^ f.width.toNat := by
  unfold FwField.coerce
  split
  next hkind =>
    rw [if_pos hkind]
    split <;> rfl
  all_goals
    next hkind => rw [hkind, if_neg (by decide), toNat_and_ones]

/-- The coerced value fits the sub-field (R123). -/
theorem FwField.toNat_coerce_lt {f : FwField} (h : f.legal = true) (v : Word) : (f.coerce v).toNat < 2 ^ f.width.toNat := by
  rw [FwField.toNat_coerce]
  split
  · have hpow : 2 ^ 1 ≤ 2 ^ f.width.toNat := Nat.pow_le_pow_right (by decide) (FwField.one_le_width h)
    split <;> omega
  · exact Nat.mod_lt _ (Nat.two_pow_pos _)

theorem FwField.invalid_eq_decide (f : FwField) (r : Word) :
    f.invalid r = decide (f.kind = .enum ∧ f.nsym.toNat ≤ r.toNat) := by
  rw [FwField.invalid, Bool.decide_and]
  rfl

/-! ### FLAG_CONFIG (R120, R121) -/

/-- The checks of R121 on the whole schema. -/
def State.SchemaAccepted (s : State) : Prop :=
  1 ≤ s.fwCfg.w.toNat ∧ s.fwCfg.w.toNat ≤ 64 ∧ s.nf ≤ 16 ∧ (∀ j, j < s.nf → (s.field j).legal = true) ∧
    s.offsetOf s.nf ≤ s.fwCfg.w.toNat

/-- The sub-fields of a schema of at most 16, by their index or as a list. -/
theorem State.forall_mem_schema_legal_iff {s : State} (h16 : s.nf ≤ 16) :
    (∀ f ∈ s.schema, f.legal = true) ↔ ∀ j, j < s.nf → (s.field j).legal = true := by
  constructor
  · intro h j hj
    exact h _ (State.mem_schema.2 ⟨j, hj, by omega, rfl⟩)
  · intro h f hf
    obtain ⟨j, hj, _, rfl⟩ := State.mem_schema.1 hf
    exact h j hj

theorem flagConfigBody_of_accepted {s : State} (h : s.SchemaAccepted) : flagConfigBody s = .commit s.configured := by
  obtain ⟨h1, h64, h16, hlegal, htotal⟩ := h
  have hall : s.schema.all FwField.legal = true := List.all_eq_true.2 ((State.forall_mem_schema_legal_iff h16).2 hlegal)
  rw [flagConfigBody, if_neg (by omega), if_neg (by omega), if_neg (by simp [hall]), if_neg (by omega), State.configured]

theorem flagConfigBody_of_not_accepted {s : State} (h : ¬s.SchemaAccepted) :
    flagConfigBody s = .raise .usageError none := by
  rcases flagConfigBody_cases s with e | ⟨h1, h64, h16, hlegal, htotal, _⟩
  · exact e
  · exact absurd ⟨h1, h64, h16, (State.forall_mem_schema_legal_iff h16).1 hlegal, htotal⟩ h

theorem exec_flagConfig_of_accepted {s : State} (h : s.SchemaAccepted) :
    exec .flagConfig s = .next { s.configured with info := Info.zero, status := s.status.succeeded } :=
  exec_of_commandBody_commit .flagConfig s (flagConfigBody_of_accepted (s := s.start) h)

theorem exec_flagConfig_of_not_accepted {s : State} (h : ¬s.SchemaAccepted) :
    exec .flagConfig s = .next (s.failedWith .usageError) :=
  exec_of_commandBody_raise .flagConfig s (by decide) (flagConfigBody_of_not_accepted (s := s.start) h)

theorem State.SchemaAccepted.schemaInv_configured {s : State} (h : s.SchemaAccepted) : s.configured.SchemaInv := by
  obtain ⟨h1, h64, h16, hlegal, htotal⟩ := h
  exact State.schemaInv_configured h1 h64 h16 ((State.forall_mem_schema_legal_iff h16).2 hlegal) htotal

/-- FLAG_CONFIG leaves the entries past the schema alone. -/
theorem State.field_configured_of_nf_le (s : State) {j : Nat} (h : s.nf ≤ j) : s.configured.field j = s.field j := by
  by_cases h16 : j < 16
  · rw [s.field_configured h16, if_neg (by omega)]
  · simp [State.field, h16]

/-- FLAG_CONFIG writes no field of a schema's entry but OFFSET. -/
theorem State.field_configured_eq_offset (s : State) {j : Nat} (h : j < 16) :
    s.configured.field j = { s.field j with offset := (s.configured.field j).offset } := by
  rw [s.field_configured h]
  split <;> rfl

/-- Settles O22: R121's checks pass or one fails; an accepted schema's offsets are those of `State.SchemaInv`. -/
theorem flagConfigValidatesTheSchema : Obligations.FlagConfigValidatesTheSchema := by
  unfold Obligations.FlagConfigValidatesTheSchema
  refine ⟨decodeOfEncodeGivesTheCommand .flagConfig rfl, fun s => ⟨fun h => ?_, exec_flagConfig_of_not_accepted⟩⟩
  obtain ⟨_, _, h16, _, _, hoffset⟩ := State.SchemaAccepted.schemaInv_configured h rfl
  refine ⟨_, exec_flagConfig_of_accepted h, rfl, fun j hj => ⟨s.field_configured_eq_offset (hj.trans_le h16), ?_⟩,
    fun j => s.field_configured_of_nf_le⟩
  exact (hoffset j hj).trans (s.offsetOf_configured j)

/-! ### The packing of a valid schema (R120) -/

section
variable {s : State} (h : s.SchemaInv) (hv : s.fwCfg.valid = true) {j k : Nat}
include h hv

theorem State.SchemaInv.legal (hj : j < s.nf) : (s.field j).legal = true := by
  obtain ⟨_, _, h16, hlegal, _, _⟩ := h hv
  exact (State.forall_mem_schema_legal_iff h16).1 hlegal j hj

/-- A sub-field ends where the widths up to it add up to. -/
theorem State.SchemaInv.offset_add_width (hj : j < s.nf) :
    (s.field j).offset.toNat + (s.field j).width.toNat = s.offsetOf (j + 1) := by
  obtain ⟨_, _, h16, _, _, hoffset⟩ := h hv
  rw [hoffset j hj, s.offsetOf_succ (hj.trans_le h16)]

theorem State.SchemaInv.offset_zero (hnf : 0 < s.nf) : (s.field 0).offset = 0 := by
  obtain ⟨_, _, _, _, _, hoffset⟩ := h hv
  exact BitVec.eq_of_toNat_eq (hoffset 0 hnf)

theorem State.SchemaInv.offset_succ (hj : j + 1 < s.nf) :
    (s.field (j + 1)).offset.toNat = (s.field j).offset.toNat + (s.field j).width.toNat := by
  obtain ⟨_, _, _, _, _, hoffset⟩ := h hv
  rw [hoffset (j + 1) hj, h.offset_add_width hv (by omega)]

theorem State.SchemaInv.end_le_w (hj : j < s.nf) :
    (s.field j).offset.toNat + (s.field j).width.toNat ≤ s.fwCfg.w.toNat := by
  obtain ⟨_, _, _, _, htotal, _⟩ := h hv
  rw [h.offset_add_width hv hj]
  exact (s.offsetOf_mono hj).trans htotal

theorem State.SchemaInv.end_le_64 (hj : j < s.nf) : (s.field j).offset.toNat + (s.field j).width.toNat ≤ 64 := by
  obtain ⟨_, h64, _, _, _, _⟩ := h hv
  exact (h.end_le_w hv hj).trans h64

theorem State.SchemaInv.end_le_offset (hjk : j < k) (hk : k < s.nf) :
    (s.field j).offset.toNat + (s.field j).width.toNat ≤ (s.field k).offset.toNat := by
  obtain ⟨_, _, _, _, _, hoffset⟩ := h hv
  rw [h.offset_add_width hv (hjk.trans hk), hoffset k hk]
  exact s.offsetOf_mono hjk

end

/-- A FLAG_CONFIG that succeeds leaves a valid schema (R121). -/
theorem schemaInv_of_exec_flagConfig {s t : State} (ht : exec .flagConfig s = .next t) (hok : t.status.errcode = .ok) :
    t.SchemaInv ∧ t.fwCfg.valid = true := by
  by_cases h : s.SchemaAccepted
  · rw [exec_flagConfig_of_accepted h] at ht
    obtain rfl := Host.Outcome.next.inj ht
    exact ⟨h.schemaInv_configured.congr rfl rfl, rfl⟩
  · rw [exec_flagConfig_of_not_accepted h] at ht
    obtain rfl := Host.Outcome.next.inj ht
    exact nomatch hok

/-- Settles O23: the offsets of a valid schema are the sums of the widths before them. -/
theorem subfieldsArePackedWithoutOverlap : Obligations.SubfieldsArePackedWithoutOverlap := by
  unfold Obligations.SubfieldsArePackedWithoutOverlap
  intro s t ht hok
  obtain ⟨hinv, hv⟩ := schemaInv_of_exec_flagConfig ht hok
  exact ⟨hinv.offset_zero hv, fun _ => hinv.offset_succ hv, fun _ => hinv.end_le_w hv, fun _ _ => hinv.end_le_offset hv⟩

/-! ### FLAG_GET and FLAG_SET (R122 to R124) -/

/-- How the pseudocode of FLAG_GET and of FLAG_SET of sub-field `j` ends on `s`: by its checks, or with `staged`. -/
def SubfieldBodyEnd (s : State) (j : Nat) (staged : State) (e : CmdEnd) : Prop :=
  ((s.fwCfg.valid = false ∨ s.nf ≤ j) ∧ e = .raise .usageError none) ∨
  (s.fwCfg.valid = true ∧ j < s.nf ∧ e = .commit staged)

section
variable {i : Instr} {s staged : State} {j : Nat} (h : SubfieldBodyEnd s.start j staged (commandBody i s.start))
include h

theorem SubfieldBodyEnd.exec_usageError (hbad : s.fwCfg.valid = false ∨ s.nf ≤ j) :
    exec i s = .next (s.failedWith .usageError) := by
  obtain ⟨_, he⟩ | ⟨hv, hj, _⟩ := h
  · exact exec_of_commandBody_raise i s (by decide) he
  · rcases hbad with hbad | hbad
    · exact absurd (hv.symm.trans hbad) (by decide)
    · exact absurd hj (not_lt.2 hbad)

theorem SubfieldBodyEnd.exec_succeeds (hv : s.fwCfg.valid = true) (hj : j < s.nf) :
    exec i s = .next { staged with status := staged.status.succeeded } := by
  obtain ⟨hbad | hbad, _⟩ | ⟨_, _, he⟩ := h
  · exact absurd (hv.symm.trans hbad) (by decide)
  · exact absurd hj (not_lt.2 hbad)
  · exact exec_of_commandBody_commit i s he

end

theorem subfieldBodyEnd_flagGet (j : Nat) (s : State) :
    SubfieldBodyEnd s j
      { s with
        res0 := (s.field j).extract s.fwValue
        info := { s.info with invalid := (s.field j).invalid ((s.field j).extract s.fwValue) } }
      (commandBody (.flagGet j) s) :=
  flagGetBody_cases j s

theorem subfieldBodyEnd_flagSet (j : Nat) (s : State) :
    SubfieldBodyEnd s j
      { s with
        fwValue := (s.field j).insert s.fwValue ((s.field j).coerce s.arg0)
        res0 := (s.field j).insert s.fwValue ((s.field j).coerce s.arg0)
        info := { s.info with invalid := (s.field j).invalid ((s.field j).coerce s.arg0) } }
      (commandBody (.flagSet j) s) :=
  flagSetBody_cases j s

/-- FLAG_GET's effect on a sub-field of a valid schema (R122). -/
theorem exec_flagGet {s : State} {j : Nat} (hv : s.fwCfg.valid = true) (hj : j < s.nf) :
    exec (.flagGet j) s = .next { s with
      res0 := (s.field j).extract s.fwValue
      info := { Info.zero with invalid := (s.field j).invalid ((s.field j).extract s.fwValue) }
      status := s.status.succeeded } :=
  (subfieldBodyEnd_flagGet j s.start).exec_succeeds hv hj

/-- FLAG_SET's effect on a sub-field of a valid schema (R123). -/
theorem exec_flagSet {s : State} {j : Nat} (hv : s.fwCfg.valid = true) (hj : j < s.nf) :
    exec (.flagSet j) s = .next { s with
      fwValue := (s.field j).insert s.fwValue ((s.field j).coerce s.arg0)
      res0 := (s.field j).insert s.fwValue ((s.field j).coerce s.arg0)
      info := { Info.zero with invalid := (s.field j).invalid ((s.field j).coerce s.arg0) }
      status := s.status.succeeded } :=
  (subfieldBodyEnd_flagSet j s.start).exec_succeeds hv hj

/-- Settles O24: the value FLAG_GET reads, bit by bit. -/
theorem flagGetReadsTheSubfield : Obligations.FlagGetReadsTheSubfield := by
  unfold Obligations.FlagGetReadsTheSubfield
  intro s j
  refine ⟨fun hj => ?_, (subfieldBodyEnd_flagGet j s.start).exec_usageError, fun hv hj => ?_⟩
  · rw [← formatF_eq_or (op := 0x11) (by decide)]
    exact decodeOfEncodeGivesTheCommand (.flagGet j) (decide_eq_true hj)
  · refine ⟨_, fun k => (s.field j).getLsbD_extract s.fwValue, ?_⟩
    rw [exec_flagGet hv hj, FwField.invalid_eq_decide]

/-- Settles O25: the word FLAG_SET writes, bit by bit; the coerced value has no bit past the sub-field's width. -/
theorem flagSetWritesOnlyTheSubfield : Obligations.FlagSetWritesOnlyTheSubfield := by
  unfold Obligations.FlagSetWritesOnlyTheSubfield
  intro s j hinv
  refine ⟨fun hj => ?_, (subfieldBodyEnd_flagSet j s.start).exec_usageError, fun hv hj => ?_⟩
  · rw [← formatF_eq_or (op := 0x12) (by decide)]
    exact decodeOfEncodeGivesTheCommand (.flagSet j) (decide_eq_true hj)
  · have hfits := FwField.toNat_coerce_lt (hinv.legal hv hj) s.arg0
    refine ⟨_, (s.field j).insert s.fwValue ((s.field j).coerce s.arg0), (s.field j).toNat_coerce s.arg0, fun k hk => ?_, ?_⟩
    · rw [BitVec.testBit_toNat]
      exact (s.field j).getLsbD_insert s.fwValue hfits hk
    · rw [exec_flagSet hv hj, FwField.invalid_eq_decide]

/-- Settles O26: FLAG_SET leaves the schema, so FLAG_GET extracts from the word that FLAG_SET inserted in. -/
theorem flagGetAfterFlagSet : Obligations.FlagGetAfterFlagSet := by
  unfold Obligations.FlagGetAfterFlagSet
  intro s j k hinv hv hj hk
  have hfits := FwField.toNat_coerce_lt (hinv.legal hv hj) s.arg0
  have hend := hinv.end_le_64 hv hk
  refine ⟨_, _, _, exec_flagSet hv hj, exec_flagGet hv hk, exec_flagGet hv hk, rfl, rfl, fun hkj => ?_, ?_⟩
  · refine FwField.extract_insert_of_disjoint s.fwValue hfits hend ?_
    rcases Nat.lt_or_gt_of_ne hkj with hlt | hgt
    · exact .inr (hinv.end_le_offset hv hlt hj)
    · exact .inl (hinv.end_le_offset hv hgt hk)
  · rintro rfl
    rw [← FwField.toNat_coerce]
    exact congrArg BitVec.toNat (FwField.extract_insert_self s.fwValue hfits hend)

end Sys2Proof.Machine

namespace Sys2Proof.Machine

/-! ### Lookup (R141) -/

theorem OptDesc.recognises_iff (d : OptDesc) (kind : BitVec 8) (code : Nat) :
    d.recognises kind code = true ↔ d.valid = true ∧ d.kind = kind ∧ d.code.toNat = code := by
  simp [OptDesc.recognises, and_assoc]

/-- The search through the table is the library's search through the table with its indices. -/
theorem lookupFrom_eq_find? (kind : BitVec 8) (code i : Nat) (ds : List OptDesc) :
    lookupFrom kind code i ds = ((ds.zipIdx i).find? (fun p => p.1.recognises kind code)).map Prod.swap := by
  induction ds generalizing i with
  | nil => rfl
  | cons d ds ih =>
    rw [lookupFrom, List.zipIdx_cons, List.find?_cons, ih]
    cases d.recognises kind code <;> rfl

theorem State.desc_eq_getElem {s : State} {i : Nat} (h : i < 32) : s.desc i = s.optDesc.toList[i]'(by simpa) := by
  simp [State.desc, h]

theorem State.lookup_eq_some_iff (s : State) (code i : Nat) (d : OptDesc) :
    s.lookup code = some (i, d) ↔
      i < 32 ∧ d = s.desc i ∧ d.recognises s.optKind code = true ∧
        ∀ k, k < i → ¬(s.desc k).recognises s.optKind code = true := by
  rw [State.lookup, lookupFrom_eq_find?]
  simp only [Option.map_eq_some_iff, Prod.exists, Prod.swap_prod_mk, List.find?_eq_some_iff_getElem, List.getElem_zipIdx]
  constructor
  · rintro ⟨_, _, ⟨hd, k, hk, hkd, hleast⟩, hswap⟩
    cases hkd
    cases hswap
    have hk : k < 32 := by simpa using hk
    rw [Nat.zero_add, ← State.desc_eq_getElem hk]
    rw [← State.desc_eq_getElem hk] at hd
    refine ⟨hk, rfl, hd, fun j hj => ?_⟩
    have hj32 : j < 32 := hj.trans hk
    simpa [State.desc_eq_getElem hj32] using hleast j hj
  · rintro ⟨hi, rfl, hd, hleast⟩
    refine ⟨_, _, ⟨hd, i, by simpa using hi, ?_, fun j hj => ?_⟩, rfl⟩
    · rw [State.desc_eq_getElem hi, Nat.zero_add]
    · have hj32 : j < 32 := hj.trans hi
      simpa [State.desc_eq_getElem hj32] using hleast j hj

theorem State.lookup_eq_none_iff (s : State) (code : Nat) :
    s.lookup code = none ↔ ∀ k, k < 32 → ¬(s.desc k).recognises s.optKind code = true := by
  rw [State.lookup, lookupFrom_eq_find?, Option.map_eq_none_iff, List.find?_eq_none]
  constructor
  · intro h k hk
    rw [State.desc_eq_getElem hk]
    exact h (_, k) (List.mk_mem_zipIdx_iff_getElem?.2 (List.getElem?_eq_getElem _))
  · rintro h ⟨d, k⟩ hd
    obtain ⟨hk, rfl⟩ := List.getElem?_eq_some_iff.1 (List.mk_mem_zipIdx_iff_getElem?.1 hd)
    have hk32 : k < 32 := by simpa using hk
    rw [← State.desc_eq_getElem hk32]
    exact h k hk32

/-- Two codes that one entry answers are the same code. -/
theorem State.code_eq_of_lookup_eq_some {s : State} {code code' i : Nat} {d d' : OptDesc}
    (h : s.lookup code = some (i, d)) (h' : s.lookup code' = some (i, d')) : code = code' := by
  obtain ⟨_, rfl, hd, _⟩ := (s.lookup_eq_some_iff code i d).1 h
  obtain ⟨_, rfl, hd', _⟩ := (s.lookup_eq_some_iff code' i d').1 h'
  obtain ⟨_, _, hcode⟩ := (OptDesc.recognises_iff _ _ _).1 hd
  obtain ⟨_, _, hcode'⟩ := (OptDesc.recognises_iff _ _ _).1 hd'
  exact hcode.symm.trans hcode'

/-- Settles O28: the search finds the first entry of the indexed table that recognises the code. -/
theorem lookupIsTheLeastMatch : Obligations.LookupIsTheLeastMatch := by
  unfold Obligations.LookupIsTheLeastMatch
  intro s code
  simp only [← OptDesc.recognises_iff]
  exact ⟨s.lookup_eq_some_iff code, s.lookup_eq_none_iff code⟩

/-! ### The multiplicity check (R142) -/

theorem bumpCount_eq_countedUp (n : Word) : bumpCount n = countedUp n := by
  unfold bumpCount countedUp
  split
  next h => rw [h]; rfl
  next h =>
    have hlt : n.toNat + 1 < 2 ^ 64 := by
      have hne : n.toNat ≠ 2 ^ 64 - 1 := fun e => h (BitVec.eq_of_toNat_eq e)
      have := n.isLt
      omega
    refine BitVec.eq_of_toNat_eq ?_
    rw [BitVec.toNat_ofNat, Nat.min_eq_left (by omega), BitVec.toNat_add]
    rfl

/-- A record that is no duplicate is accepted, its INFO and its OPT_SEEN bit set. -/
theorem multiplicity_of_not_duplicate {s : State} {code : Nat} (h : ¬s.Duplicate code) (dir : Direction) :
    multiplicity (s.lookup code) dir s.start =
      .accept { s with info := s.recordInfo code, optSeen := s.seenWith code } := by
  unfold State.recordInfo State.seenWith
  rcases multiplicity_cases s.start code dir with ⟨hl, e⟩ | ⟨i, d, hl, _, e⟩ | ⟨i, d, hl, hm, hs, _⟩
  · rw [State.lookup_start] at hl e
    rw [e, hl]
    rfl
  · rw [State.lookup_start] at hl e
    rw [e, hl]
    rfl
  · exact absurd ⟨i, d, hl, hm, hs⟩ h

@[simp] theorem State.recordInfo_endMark (s : State) (code : Nat) : (s.recordInfo code).endMark = false := by
  unfold State.recordInfo; split <;> rfl

@[simp] theorem State.recordInfo_discard (s : State) (code : Nat) : (s.recordInfo code).discard = false := by
  unfold State.recordInfo; split <;> rfl

@[simp] theorem State.recordInfo_supersedes (s : State) (code : Nat) : (s.recordInfo code).supersedes = false := by
  unfold State.recordInfo; split <;> rfl

/-- What a duplicate that POLICY does not fail stages (R142, R206): the report, and INFO with DUP and the two flags of FIX. -/
def State.keptDuplicate (s : State) (code : Nat) (discard supersedes : Bool) : State :=
  { s with
    problemCnt := countedUp s.problemCnt
    info := { s.recordInfo code with dup := true, discard := discard, supersedes := supersedes }
    status := { s.status with
      problem := true, probcode := .dupOption, warn := s.status.warn || decide (s.ctrl.policy = .warn) } }

theorem State.reportedDup_start {s : State} {code i : Nat} {d : OptDesc} (h : s.lookup code = some (i, d)) :
    s.start.reportedDup i d = s.keptDuplicate code false false := by
  unfold State.reportedDup State.keptDuplicate State.recordInfo
  rw [h, ← bumpCount_eq_countedUp]
  rfl

section
variable {s : State} {code : Nat} (h : s.Duplicate code)
include h

/-- The check of a duplicate, by POLICY (R142, R207 to R209). -/
theorem multiplicity_of_duplicate (dir : Direction) :
    (s.ctrl.policy = .fail ∧ multiplicity (s.lookup code) dir s.start = .policyFail) ∨
    (s.ctrl.policy = .fix ∧ dir = .dec ∧ s.ctrl.dupkeep = true ∧
      multiplicity (s.lookup code) dir s.start = .accept (s.keptDuplicate code false true)) ∨
    (s.ctrl.policy = .fix ∧ (dir = .enc ∨ s.ctrl.dupkeep = false) ∧
      multiplicity (s.lookup code) dir s.start = .discard (s.keptDuplicate code true false)) ∨
    (s.ctrl.policy ≠ .fail ∧ s.ctrl.policy ≠ .fix ∧
      multiplicity (s.lookup code) dir s.start = .accept (s.keptDuplicate code false false)) := by
  obtain ⟨i, d, hl, hm, hs⟩ := h
  have hdup := State.reportedDup_start hl
  rcases multiplicity_cases s.start code dir with ⟨hn, _⟩ | ⟨i', d', hl', hfirst, _⟩ | ⟨i', d', hl', _, _, hpolicy⟩
  · cases hl.symm.trans hn
  · cases hl.symm.trans hl'
    rcases hfirst with hmult | hseen
    · cases hm.symm.trans hmult
    · cases hs.symm.trans hseen
  · cases hl.symm.trans hl'
    rw [hdup] at hpolicy
    exact hpolicy

theorem multiplicity_of_duplicate_fail (dir : Direction) (hp : s.ctrl.policy = .fail) :
    multiplicity (s.lookup code) dir s.start = .policyFail := by
  rcases multiplicity_of_duplicate h dir with ⟨_, e⟩ | ⟨hp', _⟩ | ⟨hp', _⟩ | ⟨hp', _⟩
  · exact e
  · cases hp.symm.trans hp'
  · cases hp.symm.trans hp'
  · exact absurd hp hp'

/-- On decode a duplicate that POLICY does not fail is kept or discarded, flagged as DUPKEEP says under FIX. -/
theorem multiplicity_of_duplicate_dec (hp : s.ctrl.policy ≠ .fail) :
    ∃ t, t = s.keptDuplicate code (decide (s.ctrl.policy = .fix ∧ s.ctrl.dupkeep = false))
        (decide (s.ctrl.policy = .fix ∧ s.ctrl.dupkeep = true)) ∧
      (multiplicity (s.lookup code) .dec s.start = .accept t ∨ multiplicity (s.lookup code) .dec s.start = .discard t) := by
  rcases multiplicity_of_duplicate h .dec with ⟨hp', _⟩ | ⟨hfix, _, hkeep, e⟩ | ⟨hfix, hkeep, e⟩ | ⟨_, hfix, e⟩
  · exact absurd hp' hp
  · exact ⟨_, by simp [hfix, hkeep], .inl e⟩
  · have hkeep : s.ctrl.dupkeep = false := by simpa using hkeep
    exact ⟨_, by simp [hfix, hkeep], .inr e⟩
  · exact ⟨_, by simp [hfix], .inl e⟩

theorem multiplicity_of_duplicate_enc_fix (hp : s.ctrl.policy = .fix) :
    multiplicity (s.lookup code) .enc s.start = .discard (s.keptDuplicate code true false) := by
  rcases multiplicity_of_duplicate h .enc with ⟨hp', _⟩ | ⟨_, hdir, _⟩ | ⟨_, _, e⟩ | ⟨_, hp', _⟩
  · cases hp.symm.trans hp'
  · cases hdir
  · exact e
  · exact absurd hp hp'

theorem multiplicity_of_duplicate_enc_kept (hfail : s.ctrl.policy ≠ .fail) (hfix : s.ctrl.policy ≠ .fix) :
    multiplicity (s.lookup code) .enc s.start = .accept (s.keptDuplicate code false false) := by
  rcases multiplicity_of_duplicate h .enc with ⟨hp, _⟩ | ⟨hp, _⟩ | ⟨hp, _⟩ | ⟨_, _, e⟩
  · exact absurd hp hfail
  · exact absurd hp hfix
  · exact absurd hp hfix
  · exact e

end

/-- A command that raises POLICY_FAIL keeps the report alone (R207, R211). -/
theorem exec_of_commandBody_policyFail {i : Instr} {s : State} (hp : s.ctrl.policy = .fail)
    (h : commandBody i s.start = .raise .policyFail (some .dupOption)) :
    exec i s = .next { s.failedWith .policyFail with
      problemCnt := countedUp s.problemCnt
      status := { s.status.failed .policyFail with problem := true, probcode := .dupOption } } := by
  rw [exec_eq, h, complete_raise_some, ← bumpCount_eq_countedUp]
  simp [State.report, State.finish, State.start, State.failedWith, Status.failed, hp]

/-! ### OPT_BEGIN (R143) -/

theorem exec_optBegin (s : State) :
    exec .optBegin s = .next { s with optSeen := 0, info := Info.zero, status := s.status.succeeded } :=
  exec_of_commandBody_commit .optBegin s rfl

/-- Settles O27: OPT_BEGIN's body commits on every state. -/
theorem optBeginClearsSeen : Obligations.OptBeginClearsSeen :=
  ⟨decodeOfEncodeGivesTheCommand .optBegin rfl, exec_optBegin⟩

/-! ### OPT_DEC (R144) -/

theorem four_le_recordBytes (len : Nat) : 4 ≤ recordBytes len := Nat.le_add_right 4 _

theorem add_recordBytes (c len : Nat) : c + recordBytes len = c + 4 + ceil4 len := (Nat.add_assoc c 4 _).symm

theorem optDecBody_noSection {s : State} (hbov : s.ctrl.bov = false) : optDecBody s = .raise .noSection none := by
  rw [optDecBody, if_pos hbov]

section
variable {s : State} (hbov : s.ctrl.bov = true)
include hbov

theorem optDecBody_cursorBad (hbad : s.CursorBad) : optDecBody s = .raise .bounds none := by
  rw [optDecBody, if_neg (by simp [hbov]), if_pos hbad]

variable (hlimit : s.limit ≤ s.cfg.bufBytes)
include hlimit

theorem optDecBody_at_limit (hc : s.cursor = s.limit) :
    optDecBody s = .commit { s.results 0 0 s.cursor s.cursor with
      info := { s.info with endMark := true, implicitEnd := true } } := by
  rw [optDecBody, if_neg (by simp [hbov]), if_neg (by omega), if_pos (by omega)]

theorem optDecBody_partial (hlt : s.cursor < s.limit) (h4 : s.limit < s.cursor + 4) :
    optDecBody s = .raise .lengthMismatch none := by
  rw [optDecBody, if_neg (by simp [hbov]), if_neg (by omega), if_neg (by omega), if_pos (by omega)]

theorem optDecBody_terminator (h4 : s.cursor + 4 ≤ s.limit) (hzero : s.codeAt s.cursor = 0 ∧ s.lenAt s.cursor = 0) :
    optDecBody s = .commit { s.results 0 0 (s.cursor + 4) (s.cursor + 4) with info := { s.info with endMark := true } } := by
  rw [optDecBody, if_neg (by simp [hbov]), if_neg (by omega), if_neg (by omega), if_neg (by omega), if_pos hzero]

theorem optDecBody_too_long (h4 : s.cursor + 4 ≤ s.limit) (hzero : ¬(s.codeAt s.cursor = 0 ∧ s.lenAt s.cursor = 0))
    (hlong : s.limit < s.cursor + recordBytes (s.lenAt s.cursor)) : optDecBody s = .raise .lengthMismatch none := by
  rw [optDecBody, if_neg (by simp [hbov]), if_neg (by omega), if_neg (by omega), if_neg (by omega), if_neg hzero,
    if_pos (by omega)]

end

/-- BOV = 1, and a record of this code and length stands at the cursor: it ends below the limit and is no terminator. -/
structure State.RecordAtCursor (s : State) (code len : Nat) : Prop where
  bov : s.ctrl.bov = true
  limit : s.limit ≤ s.cfg.bufBytes
  codeAt_cursor : s.codeAt s.cursor = code
  lenAt_cursor : s.lenAt s.cursor = len
  not_terminator : ¬(code = 0 ∧ len = 0)
  fits : s.cursor + recordBytes len ≤ s.limit

section
variable {s : State} {code len : Nat} (h : s.RecordAtCursor code len)
include h

theorem State.RecordAtCursor.optDecBody_of_kept {t : State}
    (hm : multiplicity (s.lookup code) .dec s = .accept t ∨ multiplicity (s.lookup code) .dec s = .discard t) :
    optDecBody s = .commit (t.results code len (s.cursor + 4) (s.cursor + recordBytes len)) := by
  obtain ⟨hbov, hlimit, rfl, rfl, hzero, hfits⟩ := h
  have h4 := four_le_recordBytes (s.lenAt s.cursor)
  rw [optDecBody, if_neg (by simp [hbov]), if_neg (by omega), if_neg (by omega), if_neg (by omega), if_neg hzero,
    if_neg (by omega)]
  rcases hm with e | e <;> rw [e]

theorem State.RecordAtCursor.optDecBody_of_policyFail (hm : multiplicity (s.lookup code) .dec s = .policyFail) :
    optDecBody s = .raise .policyFail (some .dupOption) := by
  obtain ⟨hbov, hlimit, rfl, rfl, hzero, hfits⟩ := h
  have h4 := four_le_recordBytes (s.lenAt s.cursor)
  rw [optDecBody, if_neg (by simp [hbov]), if_neg (by omega), if_neg (by omega), if_neg (by omega), if_neg hzero,
    if_neg (by omega), hm]

theorem State.RecordAtCursor.start : s.start.RecordAtCursor code len :=
  ⟨h.bov, h.limit, h.codeAt_cursor, h.lenAt_cursor, h.not_terminator, h.fits⟩

/-- OPT_DEC's effect on a record that is no duplicate. -/
theorem State.RecordAtCursor.exec_optDec (hdup : ¬s.Duplicate code) :
    exec .optDec s = .next { s with
      res0 := BitVec.ofNat 64 code
      res1 := BitVec.ofNat 64 len
      res2 := BitVec.ofNat 64 (s.cursor + 4)
      res3 := BitVec.ofNat 64 (s.cursor + recordBytes len)
      optSeen := s.seenWith code
      info := s.recordInfo code
      status := s.status.succeeded } :=
  exec_of_commandBody_commit .optDec s (h.start.optDecBody_of_kept (.inl (multiplicity_of_not_duplicate hdup .dec)))

end

/-- Settles O29: one equation of OPT_DEC's body for each end. -/
theorem optDecEndsAndErrors : Obligations.OptDecEndsAndErrors := by
  unfold Obligations.OptDecEndsAndErrors
  intro s
  refine ⟨fun hbov => ?_, fun hbov hbad => ?_, fun hbov hlimit hc => ?_, fun hbov hlimit hlt h4 => ?_,
    fun hbov hlimit h4 code len hcode hlen => ⟨fun hzero => ?_, fun hzero hlong => ?_⟩⟩
  · exact exec_of_commandBody_raise .optDec s (by decide) (optDecBody_noSection (s := s.start) hbov)
  · exact exec_of_commandBody_raise .optDec s (by decide) (optDecBody_cursorBad (s := s.start) hbov hbad)
  · rw [exec_of_commandBody_commit .optDec s (optDecBody_at_limit (s := s.start) hbov hlimit hc)]
    simp [State.results, State.cursor, State.start]
  · exact exec_of_commandBody_raise .optDec s (by decide) (optDecBody_partial (s := s.start) hbov hlimit hlt h4)
  · subst hcode hlen
    exact exec_of_commandBody_commit .optDec s (optDecBody_terminator (s := s.start) hbov hlimit h4 hzero)
  · subst hcode hlen
    rw [← add_recordBytes] at hlong
    exact exec_of_commandBody_raise .optDec s (by decide) (optDecBody_too_long (s := s.start) hbov hlimit h4 hzero hlong)

/-- Settles O30: the check accepts the record. -/
theorem optDecReportsOneRecord : Obligations.OptDecReportsOneRecord := by
  unfold Obligations.OptDecReportsOneRecord
  intro s code len hbov hlimit _ hcode hlen hzero hfits hdup
  rw [← add_recordBytes] at hfits ⊢
  exact State.RecordAtCursor.exec_optDec ⟨hbov, hlimit, hcode.symm, hlen.symm, hzero, hfits⟩ hdup

/-- Settles O31: under FAIL the check raises, else it stages the report, and OPT_DEC reports the record. -/
theorem optDecDuplicateFollowsThePolicy : Obligations.OptDecDuplicateFollowsThePolicy := by
  unfold Obligations.OptDecDuplicateFollowsThePolicy
  intro s code len hbov hlimit _ hcode hlen hzero hfits hdup
  rw [← add_recordBytes] at hfits ⊢
  have hrecord : s.start.RecordAtCursor code len := ⟨hbov, hlimit, hcode.symm, hlen.symm, hzero, hfits⟩
  constructor
  · intro hp
    exact exec_of_commandBody_policyFail hp (hrecord.optDecBody_of_policyFail (multiplicity_of_duplicate_fail hdup .dec hp))
  · intro hp
    obtain ⟨t, rfl, hm⟩ := multiplicity_of_duplicate_dec hdup hp
    exact exec_of_commandBody_commit .optDec s (hrecord.optDecBody_of_kept hm)

end Sys2Proof.Machine

namespace Sys2Proof.Machine

/-! ### The bytes of a record (R140, R145) -/

/-- `t` has the bytes of `s`, but for a record of this code and length at `c` with zero padding; the value is as before. -/
structure State.RecordWritten (s t : State) (c code len : Nat) : Prop where
  code_written : t.loadInt s.ctrl.bo c 2 = code
  len_written : t.loadInt s.ctrl.bo (c + 2) 2 = len
  padding : ∀ a, c + 4 + len ≤ a → a < c + recordBytes len → t.byteAt a = 0
  frame : ∀ a, a < c ∨ (c + 4 ≤ a ∧ a < c + 4 + len) ∨ c + recordBytes len ≤ a → t.byteAt a = s.byteAt a

/-- The three writes of a record leave its code, its length and its padding, and no other byte changed. -/
theorem State.recordWritten_storeRecord (s : State) {c code len : Nat} (hcode : code ≤ 0xFFFF) (hlen : len ≤ 0xFFFF) :
    s.RecordWritten (s.storeRecord s.ctrl.bo c code len) c code len := by
  have hpad := add_pad4 len
  refine ⟨?_, ?_, fun a hlo hhi => ?_, fun a ha => ?_⟩
  · rw [State.storeRecord, State.loadInt, State.load_store_outside _ (by omega),
      State.load_store_outside _ (by omega), ← State.loadInt, State.loadInt_store]
    exact Nat.mod_eq_of_lt (by omega)
  · rw [State.storeRecord, State.loadInt, State.load_store_outside _ (by omega), ← State.loadInt, State.loadInt_store]
    exact Nat.mod_eq_of_lt (by omega)
  · rw [add_recordBytes] at hhi
    rw [State.storeRecord, State.byteAt_store, zeros_length, if_pos (by omega), zeros_getD]
  · rw [add_recordBytes] at ha
    rw [State.storeRecord, State.byteAt_store_outside _ (by rw [zeros_length]; omega),
      State.byteAt_store_outside _ (by rw [toBytes_length]; omega),
      State.byteAt_store_outside _ (by rw [toBytes_length]; omega)]

theorem State.loadInt_congr_buf {s t : State} (hb : s.buf = t.buf) (hd : s.bufDraw = t.bufDraw) (ord : ByteOrder)
    (a n : Nat) : s.loadInt ord a n = t.loadInt ord a n :=
  congrArg (fromBytes ord) (State.load_congr_buf hb hd a n)

/-- Only BUF and its draw matter. -/
theorem State.RecordWritten.congr {s t u : State} {c code len : Nat} (h : s.RecordWritten t c code len)
    (hb : u.buf = t.buf) (hd : u.bufDraw = t.bufDraw) : s.RecordWritten u c code len where
  code_written := (State.loadInt_congr_buf hb hd _ _ _).trans h.code_written
  len_written := (State.loadInt_congr_buf hb hd _ _ _).trans h.len_written
  padding a hlo hhi := (State.byteAt_congr hb hd a).trans (h.padding a hlo hhi)
  frame a ha := (State.byteAt_congr hb hd a).trans (h.frame a ha)

theorem State.storeRecord_buf_congr {s t : State} (h : t.buf = s.buf) (ord : ByteOrder) (c code len : Nat) :
    (t.storeRecord ord c code len).buf = (s.storeRecord ord c code len).buf := by
  simp only [State.storeRecord, State.store_buf, h]

/-! ### OPT_ENC (R145) -/

/-- OPT_ENC's four checks pass. -/
structure State.MayEncode (s : State) : Prop where
  bov : s.ctrl.bov = true
  limit : s.limit ≤ s.cfg.bufBytes
  operands : ¬(s.value = 0 ∨ s.value > 0xFFFF ∨ s.len > 0xFFFF)
  fits : s.cursor + recordBytes s.len ≤ s.limit

section
variable {s : State}

/-- R145's check of the code and the length, on the registers that hold them. -/
theorem State.operandsBad_iff :
    (s.value = 0 ∨ s.value > 0xFFFF ∨ s.len > 0xFFFF) ↔ s.arg2 = 0 ∨ 0xFFFF < s.arg2.toNat ∨ 0xFFFF < s.arg3.toNat := by
  rw [BitVec.toNat_eq]
  rfl

theorem State.not_operandsBad (h0 : s.arg2 ≠ 0) (hcode : s.arg2.toNat ≤ 0xFFFF) (hlen : s.arg3.toNat ≤ 0xFFFF) :
    ¬(s.value = 0 ∨ s.value > 0xFFFF ∨ s.len > 0xFFFF) :=
  State.operandsBad_iff.not.2 (not_or.2 ⟨h0, not_or.2 ⟨not_lt.2 hcode, not_lt.2 hlen⟩⟩)

theorem optEncBody_noSection (hbov : s.ctrl.bov = false) : optEncBody s = .raise .noSection none := by
  rw [optEncBody, if_pos hbov]

section
variable (hbov : s.ctrl.bov = true)
include hbov

theorem optEncBody_cursorBad (hbad : s.CursorBad) : optEncBody s = .raise .bounds none := by
  rw [optEncBody, if_neg (by simp [hbov]), if_pos hbad]

variable (hlimit : s.limit ≤ s.cfg.bufBytes) (hc : s.cursor ≤ s.limit)
include hlimit hc

theorem optEncBody_usageError (hoperands : s.value = 0 ∨ s.value > 0xFFFF ∨ s.len > 0xFFFF) :
    optEncBody s = .raise .usageError none := by
  rw [optEncBody, if_neg (by simp [hbov]), if_neg (by omega), if_pos hoperands]

theorem optEncBody_too_long (hoperands : ¬(s.value = 0 ∨ s.value > 0xFFFF ∨ s.len > 0xFFFF))
    (hlong : s.limit < s.cursor + recordBytes s.len) : optEncBody s = .raise .bounds none := by
  rw [optEncBody, if_neg (by simp [hbov]), if_neg (by omega), if_neg hoperands, if_pos hlong]

end

theorem State.mayEncode (hbov : s.ctrl.bov = true) (hlimit : s.limit ≤ s.cfg.bufBytes)
    (hfits : s.cursor + 4 + ceil4 s.arg3.toNat ≤ s.limit) (h0 : s.arg2 ≠ 0) (hcode : s.arg2.toNat ≤ 0xFFFF)
    (hlen : s.arg3.toNat ≤ 0xFFFF) : s.MayEncode :=
  ⟨hbov, hlimit, State.not_operandsBad h0 hcode hlen, (add_recordBytes _ _).trans_le hfits⟩

theorem State.MayEncode.start (h : s.MayEncode) : s.start.MayEncode := ⟨h.bov, h.limit, h.operands, h.fits⟩

/-- What OPT_ENC's body ends with once its checks pass is what the multiplicity check makes of the record. -/
theorem State.MayEncode.optEncBody_cases (h : s.MayEncode) :
    (∃ t, multiplicity (s.lookup s.value) .enc s = .accept t ∧
      optEncBody s = .commit ((t.storeRecord s.ctrl.bo s.cursor s.value s.len).results
        s.value s.len (s.cursor + 4) (s.cursor + recordBytes s.len))) ∨
    (∃ t, multiplicity (s.lookup s.value) .enc s = .discard t ∧
      optEncBody s = .commit (t.results s.value s.len (s.cursor + 4) s.cursor)) ∨
    (multiplicity (s.lookup s.value) .enc s = .policyFail ∧ optEncBody s = .raise .policyFail (some .dupOption)) := by
  obtain ⟨hbov, hlimit, hoperands, hfits⟩ := h
  rcases Machine.optEncBody_cases s with ⟨hclosed, _⟩ | ⟨_, hbad, _⟩ | ⟨_, _, hbad, _⟩ | ⟨_, _, _, hbad, _⟩ |
    ⟨_, _, _, _, hends⟩
  · cases hbov.symm.trans hclosed
  · omega
  · exact absurd hbad hoperands
  · omega
  · exact hends

/-- OPT_ENC on a record that the check accepts with `t` staged: `t`, the record's writes and the results. -/
theorem State.MayEncode.exec_of_accept (h : s.MayEncode) {t : State}
    (hm : multiplicity (s.lookup s.value) .enc s.start = .accept t) :
    exec .optEnc s = .next { t with
      buf := (s.storeRecord s.ctrl.bo s.cursor s.value s.len).buf
      res0 := s.arg2, res1 := s.arg3
      res2 := BitVec.ofNat 64 (s.cursor + 4)
      res3 := BitVec.ofNat 64 (s.cursor + recordBytes s.len)
      status := t.status.succeeded } := by
  have frame := multiplicity_frame (s := s.start) (code := s.value) (.inl hm)
  have hbuf : t.buf = s.buf := by rw [frame]; rfl
  have hvalue : BitVec.ofNat 64 s.value = s.arg2 := by simp [State.value]
  have hlen : BitVec.ofNat 64 s.len = s.arg3 := by simp [State.len]
  rcases h.start.optEncBody_cases with ⟨t', hm', he⟩ | ⟨t', hm', _⟩ | ⟨hm', _⟩
  · cases hm.symm.trans hm'
    rw [exec_of_commandBody_commit .optEnc s he, State.storeRecord_frame, State.storeRecord_buf_congr hbuf, ← hvalue, ← hlen]
    rfl
  · cases hm.symm.trans hm'
  · cases hm.symm.trans hm'

/-- OPT_ENC on a record that the check discards with `t` staged: `t` and the results, no byte written. -/
theorem State.MayEncode.exec_of_discard (h : s.MayEncode) {t : State}
    (hm : multiplicity (s.lookup s.value) .enc s.start = .discard t) :
    exec .optEnc s = .next { t with
      res0 := s.arg2, res1 := s.arg3
      res2 := BitVec.ofNat 64 (s.cursor + 4)
      res3 := s.arg0
      status := t.status.succeeded } := by
  have hvalue : BitVec.ofNat 64 s.value = s.arg2 := by simp [State.value]
  have hlen : BitVec.ofNat 64 s.len = s.arg3 := by simp [State.len]
  have hcursor : BitVec.ofNat 64 s.cursor = s.arg0 := by simp [State.cursor]
  rcases h.start.optEncBody_cases with ⟨t', hm', _⟩ | ⟨t', hm', he⟩ | ⟨hm', _⟩
  · cases hm.symm.trans hm'
  · cases hm.symm.trans hm'
    rw [exec_of_commandBody_commit .optEnc s he, ← hvalue, ← hlen, ← hcursor]
    rfl
  · cases hm.symm.trans hm'

theorem State.MayEncode.optEncBody_of_policyFail (h : s.MayEncode)
    (hm : multiplicity (s.lookup s.value) .enc s = .policyFail) :
    optEncBody s = .raise .policyFail (some .dupOption) := by
  rcases h.optEncBody_cases with ⟨t, hm', _⟩ | ⟨t, hm', _⟩ | ⟨_, he⟩
  · cases hm.symm.trans hm'
  · cases hm.symm.trans hm'
  · exact he

/-- OPT_ENC's effect on a record that is no duplicate. -/
theorem State.MayEncode.exec_optEnc (h : s.MayEncode) (hdup : ¬s.Duplicate s.value) :
    exec .optEnc s = .next { s with
      buf := (s.storeRecord s.ctrl.bo s.cursor s.value s.len).buf
      res0 := s.arg2, res1 := s.arg3
      res2 := BitVec.ofNat 64 (s.cursor + 4)
      res3 := BitVec.ofNat 64 (s.cursor + recordBytes s.len)
      optSeen := s.seenWith s.value
      info := s.recordInfo s.value
      status := s.status.succeeded } :=
  h.exec_of_accept (multiplicity_of_not_duplicate hdup .enc)

end

/-- Settles O32: each check of OPT_ENC's body in its turn. -/
theorem optEncErrors : Obligations.OptEncErrors := by
  unfold Obligations.OptEncErrors
  intro s
  refine ⟨fun hbov => ?_, fun hbov hbad => ?_, fun hbov hlimit hc hbad => ?_,
    fun hbov hlimit hc h0 hcode hlen hlong => ?_⟩
  · exact exec_of_commandBody_raise .optEnc s (by decide) (optEncBody_noSection (s := s.start) hbov)
  · exact exec_of_commandBody_raise .optEnc s (by decide) (optEncBody_cursorBad (s := s.start) hbov hbad)
  · exact exec_of_commandBody_raise .optEnc s (by decide)
      (optEncBody_usageError (s := s.start) hbov hlimit hc (State.operandsBad_iff.2 hbad))
  · rw [← add_recordBytes] at hlong
    exact exec_of_commandBody_raise .optEnc s (by decide) (optEncBody_too_long (s := s.start) hbov hlimit hc
      (State.not_operandsBad h0 hcode hlen) hlong)

/-- Settles O33: the check accepts, and the state is the one the record's writes leave. -/
theorem optEncWritesOneRecord : Obligations.OptEncWritesOneRecord := by
  unfold Obligations.OptEncWritesOneRecord
  intro s hbov hlimit hfits h0 hcode hlen hkept
  have hmay := State.mayEncode hbov hlimit hfits h0 hcode hlen
  have hwritten := s.recordWritten_storeRecord (c := s.cursor) hcode hlen
  simp only [← add_recordBytes]
  by_cases hdup : s.Duplicate s.arg2.toNat
  · obtain ⟨hfail, hfix⟩ := not_or.1 (fun hp => hkept ⟨hdup, hp⟩)
    have hm := multiplicity_of_duplicate_enc_kept hdup hfail hfix
    refine ⟨_, hmay.exec_of_accept hm, fun h => absurd hdup h, fun _ => ?_, hwritten.code_written, hwritten.len_written,
      hwritten.padding, hwritten.frame⟩
    simp [State.keptDuplicate, Status.succeeded, State.len]
  · exact ⟨_, hmay.exec_optEnc hdup, fun _ => rfl, fun h => absurd h hdup, hwritten.code_written, hwritten.len_written,
      hwritten.padding, hwritten.frame⟩

/-- Settles O34: the check raises under FAIL and discards under FIX. -/
theorem optEncDuplicateWritesNothing : Obligations.OptEncDuplicateWritesNothing := by
  unfold Obligations.OptEncDuplicateWritesNothing
  intro s hbov hlimit hfits h0 hcode hlen hdup
  have hmay := State.mayEncode hbov hlimit hfits h0 hcode hlen
  constructor
  · intro hp
    exact exec_of_commandBody_policyFail hp
      (hmay.start.optEncBody_of_policyFail (multiplicity_of_duplicate_fail hdup .enc hp))
  · intro hp
    rw [hmay.exec_of_discard (multiplicity_of_duplicate_enc_fix hdup hp)]
    simp [State.keptDuplicate, Status.succeeded, hp, State.value]

/-! ### OPT_END (R146) -/

theorem optEndBody_bounds {s : State} (h : s.CursorBad ∨ s.cursor + 4 > s.limit) :
    optEndBody s = .raise .bounds none := by
  rcases optEndBody_cases s with ⟨_, he⟩ | ⟨_, _, _⟩
  · exact he
  · omega

theorem optEndBody_fits {s : State} (hlimit : s.limit ≤ s.cfg.bufBytes) (h4 : s.cursor + 4 ≤ s.limit) :
    optEndBody s = .commit { (s.store s.cursor (zeros 4)).results 0 0 (s.cursor + 4) (s.cursor + 4) with
      info := { s.info with endMark := true } } := by
  rcases optEndBody_cases s with ⟨_, _⟩ | ⟨_, _, he⟩
  · omega
  · exact he

/-- OPT_END's effect when the terminator fits. -/
theorem exec_optEnd {s : State} (hlimit : s.limit ≤ s.cfg.bufBytes) (h4 : s.cursor + 4 ≤ s.limit) :
    exec .optEnd s = .next { s with
      buf := (s.store s.cursor (zeros 4)).buf
      res0 := 0, res1 := 0
      res2 := BitVec.ofNat 64 (s.cursor + 4), res3 := BitVec.ofNat 64 (s.cursor + 4)
      info := { Info.zero with endMark := true }
      status := s.status.succeeded } :=
  exec_of_commandBody_commit .optEnd s (optEndBody_fits (s := s.start) hlimit h4)

theorem State.byteAt_store_zeros (s : State) {c n a : Nat} (hlo : c ≤ a) (hhi : a < c + n) :
    (s.store c (zeros n)).byteAt a = 0 := by
  rw [State.byteAt_store, zeros_length, if_pos ⟨hlo, hhi⟩, zeros_getD]

/-- Settles O35: OPT_END's body has one check and one commit. -/
theorem optEndWritesTheTerminator : Obligations.OptEndWritesTheTerminator := by
  unfold Obligations.OptEndWritesTheTerminator
  refine ⟨decodeOfEncodeGivesTheCommand .optEnd rfl, fun s => ⟨fun hbad => ?_, fun hlimit h4 => ?_⟩⟩
  · exact exec_of_commandBody_raise .optEnd s (by decide) (optEndBody_bounds (s := s.start) (or_assoc.2 hbad))
  · refine ⟨_, exec_optEnd hlimit h4, rfl, fun a hlo hhi => s.byteAt_store_zeros hlo hhi, fun a ha => ?_⟩
    exact s.byteAt_store_outside (by rwa [zeros_length])

end Sys2Proof.Machine

namespace Sys2Proof.Machine

/-! ### The host's loop over a list (R90, R147) -/

theorem toNat_ofNat_word {n : Nat} (h : n < 2 ^ 64) : (BitVec.ofNat 64 n).toNat = n :=
  (BitVec.toNat_ofNat n 64).trans (Nat.mod_eq_of_lt h)

theorem State.cursor_withArgs (s : State) {a0 : Nat} (a1 a2 a3 : Nat) (h : a0 < 2 ^ 64) :
    (s.withArgs a0 a1 a2 a3).cursor = a0 :=
  toNat_ofNat_word h

theorem State.limit_withArgs (s : State) (a0 : Nat) {a1 : Nat} (a2 a3 : Nat) (h : a1 < 2 ^ 64) :
    (s.withArgs a0 a1 a2 a3).limit = a1 :=
  toNat_ofNat_word h

theorem State.value_withArgs (s : State) (a0 a1 : Nat) {a2 : Nat} (a3 : Nat) (h : a2 < 2 ^ 64) :
    (s.withArgs a0 a1 a2 a3).value = a2 :=
  toNat_ofNat_word h

theorem State.len_withArgs (s : State) (a0 a1 a2 : Nat) {a3 : Nat} (h : a3 < 2 ^ 64) :
    (s.withArgs a0 a1 a2 a3).len = a3 :=
  toNat_ofNat_word h

theorem succeeding_of_exec {i : Instr} {s t : State} (h : exec i s = .next t) (hok : t.status.errcode = .ok) :
    succeeding i s = some t := by
  simp only [succeeding, h, if_pos hok]

/-- What a command of the option codec reads besides its arguments, OPT_SEEN and BUF, and never changes. -/
def State.setup (s : State) : Config × Ctrl × BitVec 8 × Vector OptDesc 32 := (s.cfg, s.ctrl, s.optKind, s.optDesc)

theorem State.setup_eq_iff {s t : State} :
    t.setup = s.setup ↔ t.cfg = s.cfg ∧ t.ctrl = s.ctrl ∧ t.optKind = s.optKind ∧ t.optDesc = s.optDesc := by
  simp only [State.setup, Prod.mk.injEq]

theorem State.lookup_congr {s t : State} (h : t.setup = s.setup) (code : Nat) : t.lookup code = s.lookup code := by
  obtain ⟨_, _, hkind, hdesc⟩ := State.setup_eq_iff.1 h
  rw [State.lookup, State.lookup, hkind, hdesc]

/-- A bit of OPT_SEEN that a record leaves set was set before, or is the bit of the record's own entry. -/
theorem State.getLsbD_seenWith {s : State} {code i : Nat} (h : (s.seenWith code).getLsbD i = true) :
    s.optSeen.getLsbD i = true ∨ ∃ d, s.lookup code = some (i, d) := by
  unfold State.seenWith at h
  split at h
  next => exact .inl h
  next j d hl =>
    rw [BitVec.getLsbD_or, BitVec.getLsbD_twoPow, Bool.or_eq_true, Bool.and_eq_true, decide_eq_true_iff] at h
    obtain h | ⟨_, h⟩ := h
    · exact .inl h
    · obtain rfl : j = i := of_decide_eq_true h
      exact .inr ⟨d, hl⟩

@[simp] theorem recordsBytes_nil : recordsBytes [] = 0 := rfl

@[simp] theorem recordsBytes_cons (code len : Nat) (rest : List (Nat × Nat)) :
    recordsBytes ((code, len) :: rest) = recordBytes len + recordsBytes rest := rfl

/-- No later record is a second occurrence of a known non-multiple code (R147). -/
def State.Distinct (s : State) (records : List (Nat × Nat)) : Prop :=
  records.Pairwise (fun r r' => r.1 = r'.1 → ∀ i d, s.lookup r.1 = some (i, d) → d.mult = true)

/-- `records` can be walked from cursor `c` below `lim`: the section is open, the list with its terminator fits, and no record of
it is, or becomes on the way, a duplicate. -/
structure State.Walkable (s : State) (lim c : Nat) (records : List (Nat × Nat)) : Prop where
  bov : s.ctrl.bov = true
  limit : lim ≤ s.cfg.bufBytes
  bufBytes : s.cfg.bufBytes ≤ 2 ^ 32
  fits : c + recordsBytes records + 4 ≤ lim
  operands : ∀ r ∈ records, 1 ≤ r.1 ∧ r.1 ≤ 0xFFFF ∧ r.2 ≤ 0xFFFF
  fresh : ∀ r ∈ records, ¬s.Duplicate r.1
  distinct : s.Distinct records

/-- After OPT_BEGIN no record is a duplicate, so pairwise distinct records suffice. -/
theorem State.Walkable.of_seen_zero {s t : State} {lim c : Nat} {records : List (Nat × Nat)} (hbov : s.ctrl.bov = true)
    (hlimit : lim ≤ s.cfg.bufBytes) (hbufBytes : s.cfg.bufBytes ≤ 2 ^ 32) (hfits : c + recordsBytes records + 4 ≤ lim)
    (hoperands : ∀ r ∈ records, 1 ≤ r.1 ∧ r.1 ≤ 0xFFFF ∧ r.2 ≤ 0xFFFF) (hdistinct : s.Distinct records)
    (hsetup : t.setup = s.setup) (hseen : t.optSeen = 0) : t.Walkable lim c records := by
  obtain ⟨hcfg, hctrl, _⟩ := State.setup_eq_iff.1 hsetup
  refine ⟨hctrl ▸ hbov, hcfg ▸ hlimit, hcfg ▸ hbufBytes, hfits, hoperands, ?_, ?_⟩
  · rintro r _ ⟨i, d, _, _, hbit⟩
    rw [hseen] at hbit
    exact absurd hbit (by simp)
  · simpa only [State.Distinct, State.lookup_congr hsetup] using hdistinct

/-- `t` comes after a record of `s` at `c`: the host sees the record and the next cursor, and OPT_SEEN has its bit. -/
structure State.RecordPassed (s t : State) (c code len : Nat) : Prop where
  record : t.record = (code, len, c + 4)
  next : t.res3.toNat = c + recordBytes len
  setup : t.setup = s.setup
  seen : t.optSeen = s.seenWith code

section
variable {s t : State} {lim c code len : Nat} {rest : List (Nat × Nat)} (h : s.Walkable lim c ((code, len) :: rest))
include h

/-- A walk goes on behind each record. -/
theorem State.Walkable.tail (hpassed : s.RecordPassed t c code len) : t.Walkable lim (c + recordBytes len) rest := by
  obtain ⟨hbov, hlimit, hbufBytes, hfits, hoperands, hfresh, hdistinct⟩ := h
  obtain ⟨hcfg, hctrl, _⟩ := State.setup_eq_iff.1 hpassed.setup
  obtain ⟨hhead, htail⟩ := List.pairwise_cons.1 hdistinct
  refine ⟨hctrl ▸ hbov, hcfg ▸ hlimit, hcfg ▸ hbufBytes, ?_, fun r hr => hoperands r (.tail _ hr), ?_, ?_⟩
  · rw [recordsBytes_cons] at hfits
    omega
  · rintro r hr ⟨i, d, hl, hm, hbit⟩
    rw [State.lookup_congr hpassed.setup] at hl
    rw [hpassed.seen] at hbit
    rcases State.getLsbD_seenWith hbit with hbit | ⟨d', hl'⟩
    · exact hfresh r (.tail _ hr) ⟨i, d, hl, hm, hbit⟩
    · obtain rfl : code = r.1 := State.code_eq_of_lookup_eq_some hl' hl
      exact absurd (hhead r hr rfl i d hl) (by simp [hm])
  · simpa only [State.Distinct, State.lookup_congr hpassed.setup] using htail

theorem State.Walkable.head_fits : c + recordBytes len + recordsBytes rest + 4 ≤ lim ∧ lim < 2 ^ 64 := by
  have hfits := h.fits
  have hlimit := h.limit.trans h.bufBytes
  rw [recordsBytes_cons] at hfits
  exact ⟨by omega, by omega⟩

/-- OPT_ENC of the first record of a walk succeeds and writes it. -/
theorem State.Walkable.encode_head :
    ∃ t, succeeding .optEnc (s.withArgs c lim code len) = some t ∧ s.RecordPassed t c code len ∧
      s.RecordWritten t c code len := by
  obtain ⟨hfits, hlim⟩ := h.head_fits
  have hrecord := add_recordBytes c len
  obtain ⟨h1, hcode, hlen⟩ := h.operands _ List.mem_cons_self
  have hdup := h.fresh _ List.mem_cons_self
  have hcursor := s.cursor_withArgs (a0 := c) lim code len (by omega)
  have hlimit := s.limit_withArgs c code len hlim
  have hvalue := s.value_withArgs c lim (a2 := code) len (by omega)
  have hlen' := s.len_withArgs c lim code (a3 := len) (by omega)
  have hmay : (s.withArgs c lim code len).MayEncode :=
    ⟨h.bov, hlimit.trans_le h.limit, by rw [hvalue, hlen']; omega, by rw [hcursor, hlen', hlimit]; omega⟩
  have hexec := hmay.exec_optEnc (hvalue.symm ▸ hdup)
  rw [hcursor, hvalue, hlen'] at hexec
  refine ⟨_, succeeding_of_exec hexec rfl, ⟨?_, toNat_ofNat_word (by omega), rfl, rfl⟩, ?_⟩
  · exact Prod.ext hvalue (Prod.ext hlen' (toNat_ofNat_word (by omega)))
  · exact (s.recordWritten_storeRecord hcode hlen).congr (State.storeRecord_buf_congr rfl _ _ _ _) rfl

/-- OPT_DEC at the first record of a walk succeeds, reports it and writes no byte. -/
theorem State.Walkable.decode_head (hcode : s.codeAt c = code) (hlen : s.lenAt c = len) :
    ∃ t, succeeding .optDec (s.withArgs c lim 0 0) = some t ∧ t.info.endMark = false ∧ s.RecordPassed t c code len ∧
      ∀ a, t.byteAt a = s.byteAt a := by
  obtain ⟨hfits, hlim⟩ := h.head_fits
  have hrecord := add_recordBytes c len
  obtain ⟨h1, hcode16, hlen16⟩ := h.operands _ List.mem_cons_self
  have hdup := h.fresh _ List.mem_cons_self
  have hcursor := s.cursor_withArgs (a0 := c) lim 0 0 (by omega)
  have hlimit := s.limit_withArgs c 0 0 hlim
  have hat : (s.withArgs c lim 0 0).RecordAtCursor code len :=
    ⟨h.bov, hlimit.trans_le h.limit, hcursor.symm ▸ hcode, hcursor.symm ▸ hlen, by omega, by rw [hcursor, hlimit]; omega⟩
  have hexec := hat.exec_optDec hdup
  rw [hcursor] at hexec
  refine ⟨_, succeeding_of_exec hexec rfl, State.recordInfo_endMark _ _, ⟨?_, toNat_ofNat_word (by omega), rfl, rfl⟩,
    fun a => rfl⟩
  exact Prod.ext (toNat_ofNat_word (by omega)) (Prod.ext (toNat_ofNat_word (by omega)) (toNat_ofNat_word (by omega)))

end

/-! ### Records one after another (R140) -/

/-- The records as a host sees them when they stand one after another from address `c`. -/
def placed : Nat → List (Nat × Nat) → List Record
  | _, [] => []
  | c, (code, len) :: rest => (code, len, c + 4) :: placed (c + recordBytes len) rest

theorem map_placed (c : Nat) (records : List (Nat × Nat)) : (placed c records).map (fun r => (r.1, r.2.1)) = records := by
  induction records generalizing c with
  | nil => rfl
  | cons r rest ih =>
    obtain ⟨code, len⟩ := r
    rw [placed, List.map_cons, ih]

/-- The values lie behind the first header and before the end of the last record. -/
theorem mem_placed_bounds {c : Nat} {records : List (Nat × Nat)} {r : Record} (hr : r ∈ placed c records) :
    c + 4 ≤ r.2.2 ∧ r.2.2 + r.2.1 ≤ c + recordsBytes records := by
  induction records generalizing c with
  | nil => cases hr
  | cons r' rest ih =>
    obtain ⟨code, len⟩ := r'
    have hlen := ceil4_le len
    have hrecord := add_recordBytes c len
    rw [recordsBytes_cons]
    rcases List.mem_cons.1 hr with rfl | hr
    · exact ⟨le_rfl, by dsimp only; omega⟩
    · obtain ⟨hlo, hhi⟩ := ih hr
      exact ⟨by omega, by omega⟩

/-- The headers of the records stand one after another from `c`, each in the section byte order. -/
def State.HoldsRecords (s : State) : Nat → List (Nat × Nat) → Prop
  | _, [] => True
  | c, (code, len) :: rest => s.codeAt c = code ∧ s.lenAt c = len ∧ s.HoldsRecords (c + recordBytes len) rest

theorem State.codeAt_congr {s t : State} {c : Nat} (hctrl : t.ctrl = s.ctrl)
    (h : ∀ a, c ≤ a → a < c + 4 → t.byteAt a = s.byteAt a) : t.codeAt c = s.codeAt c := by
  rw [State.codeAt, State.codeAt, hctrl, State.loadInt, State.loadInt,
    State.load_congr fun a hlo hhi => h a hlo (by omega)]

theorem State.lenAt_congr {s t : State} {c : Nat} (hctrl : t.ctrl = s.ctrl)
    (h : ∀ a, c ≤ a → a < c + 4 → t.byteAt a = s.byteAt a) : t.lenAt c = s.lenAt c := by
  rw [State.lenAt, State.lenAt, hctrl, State.loadInt, State.loadInt,
    State.load_congr fun a hlo hhi => h a (by omega) (by omega)]

/-- Only the bytes from the first header to the end matter. -/
theorem State.HoldsRecords.congr {s t : State} {c : Nat} {records : List (Nat × Nat)} (h : s.HoldsRecords c records)
    (hctrl : t.ctrl = s.ctrl) (hbyte : ∀ a, c ≤ a → a < c + recordsBytes records → t.byteAt a = s.byteAt a) :
    t.HoldsRecords c records := by
  induction records generalizing c with
  | nil => trivial
  | cons r rest ih =>
    obtain ⟨code, len⟩ := r
    obtain ⟨hcode, hlen, hrest⟩ := h
    have h4 := four_le_recordBytes len
    rw [recordsBytes_cons] at hbyte
    refine ⟨?_, ?_, ih hrest fun a hlo hhi => hbyte a (by omega) (by omega)⟩
    · exact (State.codeAt_congr hctrl fun a hlo hhi => hbyte a hlo (by omega)).trans hcode
    · exact (State.lenAt_congr hctrl fun a hlo hhi => hbyte a hlo (by omega)).trans hlen

/-! ### The encoding of a list -/

/-- `t` is `s` after `records` were written from `c`: the records stand there, with every byte before them and every value byte
as it was. -/
structure State.ListEncoded (s t : State) (c : Nat) (records : List (Nat × Nat)) : Prop where
  setup : t.setup = s.setup
  holds : t.HoldsRecords c records
  below : ∀ a, a < c → t.byteAt a = s.byteAt a
  values : ∀ r ∈ placed c records, ∀ k, k < r.2.1 → t.byteAt (r.2.2 + k) = s.byteAt (r.2.2 + k)

/-- The rest of a list encoded behind its first record encodes the list. -/
theorem State.ListEncoded.cons {s t u : State} {c code len : Nat} {rest : List (Nat × Nat)} (hsetup : t.setup = s.setup)
    (hwritten : s.RecordWritten t c code len) (h : t.ListEncoded u (c + recordBytes len) rest) :
    s.ListEncoded u c ((code, len) :: rest) := by
  have hrecord := add_recordBytes c len
  have hlen := ceil4_le len
  obtain ⟨_, hctrl, _⟩ := State.setup_eq_iff.1 hsetup
  obtain ⟨_, hctrl', _⟩ := State.setup_eq_iff.1 h.setup
  refine ⟨h.setup.trans hsetup, ⟨?_, ?_, h.holds⟩, fun a ha => ?_, fun r hr k hk => ?_⟩
  · rw [State.codeAt_congr hctrl' fun a _ ha => h.below a (by omega), State.codeAt, hctrl, hwritten.code_written]
  · rw [State.lenAt_congr hctrl' fun a _ ha => h.below a (by omega), State.lenAt, hctrl, hwritten.len_written]
  · rw [h.below a (by omega), hwritten.frame a (.inl ha)]
  · rcases List.mem_cons.1 hr with rfl | hr
    · dsimp only at hk ⊢
      rw [h.below _ (by omega), hwritten.frame _ (by omega)]
    · obtain ⟨hlo, _⟩ := mem_placed_bounds hr
      rw [h.values r hr k hk, hwritten.frame _ (by omega)]

theorem State.Walkable.encodeRecords {lim : Nat} {records : List (Nat × Nat)} {c : Nat} {s : State}
    (h : s.Walkable lim c records) :
    ∃ t, encodeRecords lim records c s = some (placed c records, c + recordsBytes records, t) ∧
      s.ListEncoded t c records := by
  induction records generalizing c s with
  | nil => exact ⟨s, rfl, rfl, trivial, fun _ _ => rfl, nofun⟩
  | cons r rest ih =>
    obtain ⟨code, len⟩ := r
    obtain ⟨t, ht, hpassed, hwritten⟩ := h.encode_head
    obtain ⟨u, hu, hencoded⟩ := ih (h.tail hpassed)
    refine ⟨u, ?_, hencoded.cons hpassed.setup hwritten⟩
    simp only [Machine.encodeRecords, ht, hpassed.next, hu, hpassed.record, placed, recordsBytes_cons, Nat.add_assoc]

/-! ### The decoding of a list -/

theorem fromBytes_zeros (ord : ByteOrder) (n : Nat) : fromBytes ord (zeros n) = 0 := by
  cases ord
  · exact fromBytesLE_zeros n
  · rw [fromBytes, zeros, List.reverse_replicate, ← zeros, fromBytesLE_zeros]

theorem State.loadInt_eq_zero {s : State} (ord : ByteOrder) {a n : Nat} (h : ∀ k, k < n → s.byteAt (a + k) = 0) :
    s.loadInt ord a n = 0 := by
  have hload : s.load a n = zeros n :=
    List.eq_replicate_iff.2 ⟨s.load_length a n, fun b hb => by
      obtain ⟨k, hk, rfl⟩ := List.mem_map.1 hb
      exact h k (List.mem_range.1 hk)⟩
  rw [State.loadInt, hload, fromBytes_zeros]

/-- OPT_DEC at four zero bytes succeeds, ends the list and writes no byte. -/
theorem decode_terminator {s : State} {lim c : Nat} (hbov : s.ctrl.bov = true) (hlimit : lim ≤ s.cfg.bufBytes)
    (hlim : lim < 2 ^ 64) (hfits : c + 4 ≤ lim) (hzero : ∀ a, c ≤ a → a < c + 4 → s.byteAt a = 0) :
    ∃ t, succeeding .optDec (s.withArgs c lim 0 0) = some t ∧ t.info.endMark = true ∧ ∀ a, t.byteAt a = s.byteAt a := by
  have hcursor := s.cursor_withArgs (a0 := c) lim 0 0 (by omega)
  have hlim' := s.limit_withArgs c 0 0 hlim
  have hcode : s.codeAt c = 0 := State.loadInt_eq_zero _ fun k hk => hzero _ (by omega) (by omega)
  have hlen : s.lenAt c = 0 := State.loadInt_eq_zero _ fun k hk => hzero _ (by omega) (by omega)
  have hexec := exec_of_commandBody_commit .optDec (s.withArgs c lim 0 0)
    (optDecBody_terminator (s := (s.withArgs c lim 0 0).start) hbov (hlim'.trans_le hlimit)
      (by rw [State.cursor_start, State.limit_start, hcursor, hlim']; exact hfits)
      (by rw [State.cursor_start, hcursor]; exact ⟨hcode, hlen⟩))
  exact ⟨_, succeeding_of_exec hexec rfl, rfl, fun a => rfl⟩

theorem State.Walkable.decodeRecords {lim : Nat} {records : List (Nat × Nat)} {c : Nat} {s : State}
    (h : s.Walkable lim c records) (hholds : s.HoldsRecords c records)
    (hzero : ∀ a, c + recordsBytes records ≤ a → a < c + recordsBytes records + 4 → s.byteAt a = 0) :
    ∃ t, decodeRecords lim (records.length + 1) c s = some (placed c records, t) ∧ ∀ a, t.byteAt a = s.byteAt a := by
  induction records generalizing c s with
  | nil =>
    have hlim := h.limit.trans h.bufBytes
    obtain ⟨t, ht, hend, hbyte⟩ := decode_terminator (c := c) h.bov h.limit (by omega) h.fits hzero
    refine ⟨t, ?_, hbyte⟩
    simp only [List.length_nil, Machine.decodeRecords, ht, if_pos hend, placed]
  | cons r rest ih =>
    obtain ⟨code, len⟩ := r
    obtain ⟨hcode, hlen, hrest⟩ := hholds
    rw [recordsBytes_cons, ← Nat.add_assoc] at hzero
    obtain ⟨t, ht, hend, hpassed, hbyte⟩ := h.decode_head hcode hlen
    obtain ⟨_, hctrl, _⟩ := State.setup_eq_iff.1 hpassed.setup
    obtain ⟨u, hu, hbyte'⟩ := ih (h.tail hpassed) (hrest.congr hctrl fun a _ _ => hbyte a)
      fun a hlo hhi => (hbyte a).trans (hzero a hlo hhi)
    refine ⟨u, ?_, fun a => (hbyte' a).trans (hbyte a)⟩
    rw [List.length_cons, Machine.decodeRecords]
    simp [ht, hend, hpassed.next, hu, hpassed.record, placed]

/-! ### The round trip (R147) -/

theorem succeeding_optBegin (s : State) :
    succeeding .optBegin s = some { s with optSeen := 0, info := Info.zero, status := s.status.succeeded } :=
  succeeding_of_exec (exec_optBegin s) rfl

theorem succeeding_optEnd {s : State} {lim c : Nat} (hlimit : lim ≤ s.cfg.bufBytes) (hlim : lim < 2 ^ 64)
    (hfits : c + 4 ≤ lim) :
    ∃ t, succeeding .optEnd (s.withArgs c lim 0 0) = some t ∧ t.setup = s.setup ∧
      (∀ a, c ≤ a → a < c + 4 → t.byteAt a = 0) ∧ ∀ a, a < c → t.byteAt a = s.byteAt a := by
  have hcursor := s.cursor_withArgs (a0 := c) lim 0 0 (by omega)
  have hlim' := s.limit_withArgs c 0 0 hlim
  have hexec := exec_optEnd (s := s.withArgs c lim 0 0) (hlim'.trans_le hlimit) (by rw [hcursor, hlim']; exact hfits)
  rw [hcursor] at hexec
  refine ⟨_, succeeding_of_exec hexec rfl, rfl, fun a hlo hhi => ?_, fun a ha => ?_⟩
  · exact (s.withArgs c lim 0 0).byteAt_store_zeros hlo hhi
  · exact (s.withArgs c lim 0 0).byteAt_store_outside (.inl ha)

/-- Settles O36: the encode leaves the records one after another, by induction on the list; OPT_END and OPT_BEGIN leave them, and
the decode finds them, by induction on the list. -/
theorem optionListsRoundTrip : Obligations.OptionListsRoundTrip := by
  unfold Obligations.OptionListsRoundTrip
  intro s records c lim hlegal hbov hlimit hfits hoperands hdistinct
  obtain ⟨_, hbufBytes, _⟩ := hlegal
  have walkable {t : State} (hsetup : t.setup = s.setup) (hseen : t.optSeen = 0) : t.Walkable lim c records :=
    .of_seen_zero hbov hlimit hbufBytes hfits hoperands hdistinct hsetup hseen
  obtain ⟨s1, hs1, hencoded⟩ := (walkable (t := { s with optSeen := 0, info := Info.zero, status := s.status.succeeded })
    rfl rfl).encodeRecords
  obtain ⟨hcfg, hctrl, _⟩ := State.setup_eq_iff.1 hencoded.setup
  obtain ⟨s2, hs2, hsetup, hzero, hbelow⟩ := succeeding_optEnd (s := s1) (hcfg ▸ hlimit) (by omega) hfits
  obtain ⟨_, hctrl', _⟩ := State.setup_eq_iff.1 hsetup
  have hholds : s2.HoldsRecords c records := hencoded.holds.congr hctrl' fun a _ ha => hbelow a ha
  obtain ⟨s4, hs4, hbyte⟩ := (walkable (t := { s2 with optSeen := 0, info := Info.zero, status := s2.status.succeeded })
    (hsetup.trans hencoded.setup) rfl).decodeRecords (hholds.congr rfl fun _ _ _ => rfl) hzero
  refine ⟨_, s1, s2, _, s4, _, _, succeeding_optBegin s, hs1, hs2, succeeding_optBegin s2, hs4, map_placed c records,
    fun r hr k hk => ?_⟩
  obtain ⟨_, hhi⟩ := mem_placed_bounds hr
  calc
    s4.byteAt (r.2.2 + k) = s2.byteAt (r.2.2 + k) := hbyte _
    _ = s1.byteAt (r.2.2 + k) := hbelow _ (by omega)
    _ = s.byteAt (r.2.2 + k) := hencoded.values r hr k hk

end Sys2Proof.Machine

namespace Sys2Proof.Machine

/-! ### ToBytes and FromBytes are inverse (R17) -/

theorem toBytesLE_fromBytesLE (bs : List Byte) : toBytesLE bs.length (fromBytesLE bs) = bs := by
  induction bs with
  | nil => rfl
  | cons b bs ih =>
    have hb := b.isLt
    have hhead : BitVec.ofNat 8 (b.toNat + 256 * fromBytesLE bs) = b :=
      BitVec.eq_of_toNat_eq (by rw [BitVec.toNat_ofNat]; omega)
    have htail : (b.toNat + 256 * fromBytesLE bs) / 256 = fromBytesLE bs := by omega
    rw [fromBytesLE, List.length_cons, toBytesLE, hhead, htail, ih]

theorem toBytes_fromBytes (ord : ByteOrder) (bs : List Byte) : toBytes (fromBytes ord bs) bs.length ord = bs := by
  cases ord
  · exact toBytesLE_fromBytesLE bs
  · have h := toBytesLE_fromBytesLE bs.reverse
    rw [List.length_reverse] at h
    rw [toBytes, fromBytes, h, List.reverse_reverse]

/-- The n bytes that spell a value of n bytes are the ones ToBytes gives. -/
theorem fromBytes_eq_iff {ord : ByteOrder} {bs : List Byte} {n v : Nat} (hlen : bs.length = n) (hv : v < 256 ^ n) :
    fromBytes ord bs = v ↔ bs = toBytes v n ord := by
  constructor
  · rintro rfl
    rw [← hlen, toBytes_fromBytes]
  · rintro rfl
    rw [fromBytes_toBytes, Nat.mod_eq_of_lt hv]

/-! ### The Section Header's type and magic (R176) -/

/-- The type's bytes are a palindrome, so no order is needed to read it. -/
theorem fromBytes_eq_shbType_iff (ord : ByteOrder) {bs : List Byte} (hlen : bs.length = 4) :
    fromBytes ord bs = 0x0A0D0D0A ↔ bs = shbTypeBytes := by
  have hbytes : toBytes 0x0A0D0D0A 4 ord = shbTypeBytes := by cases ord <;> rfl
  rw [fromBytes_eq_iff hlen (by decide), hbytes]

theorem State.loadInt_eq_shbType_iff (s : State) (ord : ByteOrder) (a : Nat) :
    s.loadInt ord a 4 = 0x0A0D0D0A ↔ s.load a 4 = shbTypeBytes :=
  fromBytes_eq_shbType_iff ord (s.load_length a 4)

/-- No four bytes spell the magic in both orders. -/
theorem detectOrder_eq_some_iff {m : List Byte} (hlen : m.length = 4) (ord : ByteOrder) :
    detectOrder m = some ord ↔ m = toBytes byteOrderMagic 4 ord := by
  have hne : toBytes byteOrderMagic 4 .be ≠ toBytes byteOrderMagic 4 .le := by decide
  simp only [detectOrder, fromBytes_eq_iff hlen (show byteOrderMagic < 256 ^ 4 by decide)]
  by_cases hle : m = toBytes byteOrderMagic 4 .le
  · rw [if_pos hle]
    cases ord
    · simp [hle]
    · simp [hle, hne.symm]
  · rw [if_neg hle]
    cases ord
    · simp [hle]
    · simp

theorem detectOrder_eq_none_iff {m : List Byte} (hlen : m.length = 4) :
    detectOrder m = none ↔ ∀ ord, m ≠ toBytes byteOrderMagic 4 ord := by
  simp only [Option.eq_none_iff_forall_ne_some, ne_eq, detectOrder_eq_some_iff hlen]

/-- Settles O38: the magic's bytes in either order are the only ones detected, and the type's bytes read alike in both. -/
theorem byteOrderIsDetectedFromTheMagic : Obligations.ByteOrderIsDetectedFromTheMagic := by
  unfold Obligations.ByteOrderIsDetectedFromTheMagic
  refine ⟨fun m hlen => ⟨detectOrder_eq_some_iff hlen .le, detectOrder_eq_some_iff hlen .be⟩, fun ord => ?_⟩
  exact (fromBytes_eq_shbType_iff ord rfl).2 rfl

/-! ### FRAME_ENC (R174) -/

/-- `t` has the bytes of `s`, but for a frame of this type and body length at `base` with zero padding; the body is as before. -/
structure State.FrameWritten (s t : State) (base type len : Nat) : Prop where
  type_written : t.loadInt s.ctrl.bo base 4 = type
  length_written : t.loadInt s.ctrl.bo (base + 4) 4 = totalLength len
  trailer_written : t.loadInt s.ctrl.bo (base + trailerOffset (totalLength len)) 4 = totalLength len
  padding : ∀ a, base + 8 + len ≤ a → a < base + trailerOffset (totalLength len) → t.byteAt a = 0
  frame : ∀ a, a < base ∨ (base + 8 ≤ a ∧ a < base + 8 + len) ∨ base + totalLength len ≤ a → t.byteAt a = s.byteAt a

/-- FRAME_ENC puts the trailer where FRAME_DEC looks for it (R171, R172). -/
theorem trailerOffset_totalLength (len : Nat) : trailerOffset (totalLength len) = 8 + ceil4 len := by
  rw [trailerOffset, totalLength, Nat.add_sub_cancel_left, ceil4_of_mod _ (ceil4_mod len)]

theorem totalLength_eq (len : Nat) : totalLength len = 12 + ceil4 len := rfl

/-- The four writes of a frame leave its type, its two lengths and its padding, and no other byte changed. -/
theorem State.frameWritten_storeFrame (s : State) {base type len : Nat} (htype : type ≤ 0xFFFFFFFF)
    (htotal : totalLength len ≤ 0xFFFFFFFF) : s.FrameWritten (s.storeFrame s.ctrl.bo base type len) base type len := by
  have hlen := ceil4_le len
  have hpad := add_pad4 len
  refine ⟨?_, ?_, ?_, fun a hlo hhi => ?_, fun a ha => ?_⟩
  · rw [State.storeFrame, State.loadInt, State.load_store_outside _ (by omega), State.load_store_outside _ (by omega),
      State.load_store_outside _ (by omega), ← State.loadInt, State.loadInt_store]
    exact Nat.mod_eq_of_lt (by omega)
  · rw [State.storeFrame, State.loadInt, State.load_store_outside _ (by omega), State.load_store_outside _ (by omega),
      ← State.loadInt, State.loadInt_store]
    exact Nat.mod_eq_of_lt (by omega)
  · rw [trailerOffset_totalLength, ← Nat.add_assoc, State.storeFrame, State.loadInt_store]
    exact Nat.mod_eq_of_lt (by omega)
  · rw [trailerOffset_totalLength] at hhi
    rw [State.storeFrame, State.byteAt_store_outside _ (by omega), State.byteAt_store_zeros _ hlo (by omega)]
  · rw [totalLength_eq] at ha
    rw [State.storeFrame, State.byteAt_store_outside _ (by rw [toBytes_length]; omega),
      State.byteAt_store_outside _ (by rw [zeros_length]; omega),
      State.byteAt_store_outside _ (by rw [toBytes_length]; omega),
      State.byteAt_store_outside _ (by rw [toBytes_length]; omega)]

/-- FRAME_ENC's checks pass. -/
structure State.MayFrame (s : State) : Prop where
  bov : s.ctrl.bov = true
  limit : s.limit ≤ s.cfg.bufBytes
  type : s.value ≤ 0xFFFFFFFF
  total : totalLength s.len ≤ 0xFFFFFFFF
  fits : s.cursor + totalLength s.len ≤ s.limit

section
variable {s : State}

theorem frameEncBody_noSection (hbov : s.ctrl.bov = false) : frameEncBody s = .raise .noSection none := by
  rw [frameEncBody, if_pos hbov]

section
variable (hbov : s.ctrl.bov = true)
include hbov

theorem frameEncBody_cursorBad (hbad : s.CursorBad) : frameEncBody s = .raise .bounds none := by
  rw [frameEncBody, if_neg (by simp [hbov]), if_pos hbad]

variable (hlimit : s.limit ≤ s.cfg.bufBytes) (hc : s.cursor ≤ s.limit)
include hlimit hc

theorem frameEncBody_usageError (hbad : 0xFFFFFFFF < s.value ∨ 0xFFFFFFFF < totalLength s.len) :
    frameEncBody s = .raise .usageError none := by
  rw [frameEncBody, if_neg (by simp [hbov]), if_neg (by omega)]
  by_cases htype : s.value > 0xFFFFFFFF
  · rw [if_pos htype]
  · rw [if_neg htype, if_pos (hbad.resolve_left htype)]

theorem frameEncBody_too_long (htype : s.value ≤ 0xFFFFFFFF) (htotal : totalLength s.len ≤ 0xFFFFFFFF)
    (hlong : s.limit < s.cursor + totalLength s.len) : frameEncBody s = .raise .bounds none := by
  rw [frameEncBody, if_neg (by simp [hbov]), if_neg (by omega), if_neg (by omega), if_neg (by omega), if_pos hlong]

end

theorem State.MayFrame.start (h : s.MayFrame) : s.start.MayFrame := ⟨h.bov, h.limit, h.type, h.total, h.fits⟩

theorem State.MayFrame.frameEncBody (h : s.MayFrame) :
    frameEncBody s = .commit ((s.storeFrame s.ctrl.bo s.cursor s.value s.len).results
      s.value (totalLength s.len) (ceil4 s.len) (s.cursor + totalLength s.len)) := by
  obtain ⟨hbov, hlimit, htype, htotal, hfits⟩ := h
  have hbody : totalLength s.len - 12 = ceil4 s.len := Nat.add_sub_cancel_left 12 _
  rw [Machine.frameEncBody, if_neg (by simp [hbov]), if_neg (by omega), if_neg (by omega), if_neg (by omega),
    if_neg (by omega), hbody]

/-- FRAME_ENC's effect once its checks pass. -/
theorem State.MayFrame.exec_frameEnc (h : s.MayFrame) :
    exec .frameEnc s = .next { s with
      buf := (s.storeFrame s.ctrl.bo s.cursor s.value s.len).buf
      res0 := s.arg2
      res1 := BitVec.ofNat 64 (totalLength s.len)
      res2 := BitVec.ofNat 64 (ceil4 s.len)
      res3 := BitVec.ofNat 64 (s.cursor + totalLength s.len)
      info := Info.zero
      status := s.status.succeeded } := by
  have hvalue : BitVec.ofNat 64 s.value = s.arg2 := by simp [State.value]
  rw [exec_of_commandBody_commit .frameEnc s h.start.frameEncBody, State.storeFrame_frame, State.results,
    State.value_start, hvalue]
  rfl

/-- A FRAME_ENC that succeeded passed its checks. -/
theorem State.mayFrame_of_exec {t : State} (h : exec .frameEnc s = .next t) (hok : t.status.errcode = .ok) : s.MayFrame := by
  obtain rfl := eq_complete_of_exec h
  rw [commandBody] at hok
  rcases frameEncBody_cases s.start with ⟨_, he⟩ | ⟨_, _, he⟩ | ⟨_, _, _, he⟩ | ⟨_, _, _, _, he⟩ |
    ⟨hbov, hlimit, htype, htotal, hfits, _⟩
  · rw [he] at hok; cases hok
  · rw [he] at hok; cases hok
  · rw [he] at hok; cases hok
  · rw [he] at hok; cases hok
  · exact ⟨hbov, hlimit, htype, htotal, hfits⟩

end

/-- Settles O37: each check of FRAME_ENC's body in its turn, then the frame that its writes leave. -/
theorem frameEncWritesOneFrame : Obligations.FrameEncWritesOneFrame := by
  unfold Obligations.FrameEncWritesOneFrame
  refine ⟨decodeOfEncodeGivesTheCommand .frameEnc rfl, ?_⟩
  rintro s _ rfl
  refine ⟨fun hbov => ?_, fun hbov hbad => ?_, fun hbov hlimit hc hbad => ?_,
    fun hbov hlimit hc htype htotal hlong => ?_, fun hbov hlimit htype htotal hfits => ?_⟩
  · exact exec_of_commandBody_raise .frameEnc s (by decide) (frameEncBody_noSection (s := s.start) hbov)
  · exact exec_of_commandBody_raise .frameEnc s (by decide) (frameEncBody_cursorBad (s := s.start) hbov hbad)
  · exact exec_of_commandBody_raise .frameEnc s (by decide) (frameEncBody_usageError (s := s.start) hbov hlimit hc hbad)
  · exact exec_of_commandBody_raise .frameEnc s (by decide)
      (frameEncBody_too_long (s := s.start) hbov hlimit hc htype htotal hlong)
  · have hwritten := s.frameWritten_storeFrame (base := s.cursor) (len := s.len) htype htotal
    have htrailer : s.cursor + (12 + ceil4 s.arg3.toNat) - 4 = s.cursor + trailerOffset (totalLength s.len) := by
      rw [trailerOffset_totalLength, State.len]
      omega
    rw [htrailer]
    exact ⟨_, State.MayFrame.exec_frameEnc ⟨hbov, hlimit, htype, htotal, hfits⟩, rfl, hwritten.type_written,
      hwritten.length_written, hwritten.trailer_written, hwritten.padding, hwritten.frame⟩

/-! ### FRAME_DEC up to the leading length (R175, R176) -/

section
variable {s : State}

theorem frameDecBody_cursorBad (hbad : s.CursorBad) : frameDecBody s = .raise .bounds none := by
  rw [frameDecBody, if_pos hbad]

section
variable (hlimit : s.limit ≤ s.cfg.bufBytes)
include hlimit

theorem frameDecBody_at_limit (hc : s.cursor = s.limit) :
    frameDecBody s = .commit { s.results 0 0 0 s.cursor with info := { s.info with eos := true } } := by
  rw [frameDecBody, if_neg (by omega), if_pos (by omega)]

theorem frameDecBody_partial (hlt : s.cursor < s.limit) (h8 : s.limit < s.cursor + 8) :
    frameDecBody s = .raise .truncated none := by
  rw [frameDecBody, if_neg (by omega), if_neg (by omega), if_pos (by omega)]

section
variable (h8 : s.cursor + 8 ≤ s.limit) (htype : s.load s.cursor 4 ≠ shbTypeBytes)
include h8 htype

theorem frameDecBody_noSection (hbov : s.ctrl.bov = false) : frameDecBody s = .raise .noSection none := by
  rw [frameDecBody, if_neg (by omega), if_neg (by omega), if_neg (by omega), if_neg htype, if_pos hbov]

theorem frameDecBody_in_section (hbov : s.ctrl.bov = true) : frameDecBody s = frameDecIn s.ctrl.bo false s := by
  rw [frameDecBody, if_neg (by omega), if_neg (by omega), if_neg (by omega), if_neg htype, if_neg (by simp [hbov])]

end

section
variable (htype : s.load s.cursor 4 = shbTypeBytes)
include htype

theorem frameDecBody_no_magic (h8 : s.cursor + 8 ≤ s.limit) (h12 : s.limit < s.cursor + 12) :
    frameDecBody s = .raise .truncated none := by
  rw [frameDecBody, if_neg (by omega), if_neg (by omega), if_neg (by omega), if_pos htype, if_pos (by omega)]

variable (h12 : s.cursor + 12 ≤ s.limit)
include h12

theorem frameDecBody_badMagic (hmagic : detectOrder (s.load (s.cursor + 8) 4) = none) :
    frameDecBody s = .raise .badMagic none := by
  rw [frameDecBody, if_neg (by omega), if_neg (by omega), if_neg (by omega), if_pos htype, if_neg (by omega), hmagic]

theorem frameDecBody_of_magic {ord : ByteOrder} (hmagic : s.load (s.cursor + 8) 4 = toBytes byteOrderMagic 4 ord) :
    frameDecBody s = frameDecIn ord true s := by
  rw [frameDecBody, if_neg (by omega), if_neg (by omega), if_neg (by omega), if_pos htype, if_neg (by omega),
    (detectOrder_eq_some_iff (s.load_length _ 4) ord).2 hmagic]

end
end
end

/-- Settles O39: each end of FRAME_DEC's body before it reads a length. -/
theorem frameDecEndsAndHeaderErrors : Obligations.FrameDecEndsAndHeaderErrors := by
  unfold Obligations.FrameDecEndsAndHeaderErrors
  intro s
  refine ⟨fun hbad => ?_, fun hlimit hc => ?_, fun hlimit hlt h8 => ?_, fun hlimit h8 htype hbov => ?_,
    fun hlimit h8 htype => ⟨fun h12 => ?_, fun h12 hle hbe => ?_⟩⟩
  · exact exec_of_commandBody_raise .frameDec s (by decide) (frameDecBody_cursorBad (s := s.start) hbad)
  · rw [exec_of_commandBody_commit .frameDec s (frameDecBody_at_limit (s := s.start) hlimit hc)]
    simp [State.results, State.cursor, State.start]
  · exact exec_of_commandBody_raise .frameDec s (by decide) (frameDecBody_partial (s := s.start) hlimit hlt h8)
  · exact exec_of_commandBody_raise .frameDec s (by decide) (frameDecBody_noSection (s := s.start) hlimit h8 htype hbov)
  · exact exec_of_commandBody_raise .frameDec s (by decide) (frameDecBody_no_magic (s := s.start) hlimit htype h8 h12)
  · have hmagic : detectOrder (s.load (s.cursor + 8) 4) = none :=
      (detectOrder_eq_none_iff (s.load_length _ 4)).2 fun ord => by cases ord; exacts [hle, hbe]
    exact exec_of_commandBody_raise .frameDec s (by decide)
      (frameDecBody_badMagic (s := s.start) hlimit htype h12 hmagic)

/-! ### FRAME_DEC from the leading length on (R172, R175, R177) -/

/-- The least total length of a frame, and of a Section Header (R172). -/
def leastTotal (shb : Bool) : Nat := if shb then 16 else 12

/-- R175's two checks of the leading length are one comparison. -/
theorem lt_leastTotal_iff (shb : Bool) (total : Nat) :
    total < leastTotal shb ↔ total < 12 ∨ (shb = true ∧ total < 16) := by
  cases shb
  · simp [leastTotal]
  · simp only [leastTotal, if_true, true_and]
    omega

section
variable {s : State} {ord : ByteOrder} {shb : Bool} {total : Nat}
variable (hbody : frameDecBody s.start = frameDecIn ord shb s.start) (htotal : total = s.loadInt ord (s.cursor + 4) 4)
include hbody htotal

theorem exec_frameDec_too_short (hshort : total < leastTotal shb) :
    exec .frameDec s = .next (s.failedWith .frameLengthInvalid) := by
  rw [lt_leastTotal_iff] at hshort
  rcases frameDecIn_cases ord shb s.start total htotal with ⟨_, he⟩ | ⟨hleast, _⟩ | ⟨hleast, _⟩ | ⟨hleast, _⟩
  · exact exec_of_commandBody_raise .frameDec s (by decide) (hbody.trans he)
  · exact absurd hshort hleast
  · exact absurd hshort hleast
  · exact absurd hshort hleast

variable (hleast : leastTotal shb ≤ total)
include hleast

theorem exec_frameDec_truncated (hlong : s.limit < s.cursor + trailerOffset total + 4) :
    exec .frameDec s = .next (s.failedWith .truncated) := by
  rw [← not_lt, lt_leastTotal_iff] at hleast
  rcases frameDecIn_cases ord shb s.start total htotal with ⟨hshort, _⟩ | ⟨_, _, he⟩ | ⟨_, hfits, _⟩ | ⟨_, hfits, _⟩
  · exact absurd hshort hleast
  · exact exec_of_commandBody_raise .frameDec s (by decide) (hbody.trans he)
  · exact absurd hlong (not_lt.2 hfits)
  · exact absurd hlong (not_lt.2 hfits)

variable (hfits : s.cursor + trailerOffset total + 4 ≤ s.limit)
include hfits

theorem exec_frameDec_mismatch (htrailer : s.loadInt ord (s.cursor + trailerOffset total) 4 ≠ total) :
    exec .frameDec s = .next (s.failedWith .frameLengthMismatch) := by
  rw [← not_lt, lt_leastTotal_iff] at hleast
  rcases frameDecIn_cases ord shb s.start total htotal with ⟨hshort, _⟩ | ⟨_, hlong, _⟩ | ⟨_, _, _, he⟩ | ⟨_, _, heq, _⟩
  · exact absurd hshort hleast
  · exact absurd hfits (not_le.2 hlong)
  · exact exec_of_commandBody_raise .frameDec s (by decide) (hbody.trans he)
  · exact absurd heq htrailer

/-- FRAME_DEC's effect on a whole frame; a Section Header opens its section. -/
theorem exec_frameDec_decoded (htrailer : s.loadInt ord (s.cursor + trailerOffset total) 4 = total) :
    exec .frameDec s = .next { s with
      res0 := BitVec.ofNat 64 (s.loadInt ord s.cursor 4)
      res1 := BitVec.ofNat 64 total
      res2 := BitVec.ofNat 64 (total - 12)
      res3 := BitVec.ofNat 64 (s.cursor + trailerOffset total + 4)
      ctrl := if shb then { s.ctrl with bo := ord, bov := true } else s.ctrl
      info := if shb then { Info.zero with shb := true, detbo := ord } else Info.zero
      status := s.status.succeeded } := by
  rw [← not_lt, lt_leastTotal_iff] at hleast
  rcases frameDecIn_cases ord shb s.start total htotal with ⟨hshort, _⟩ | ⟨_, hlong, _⟩ | ⟨_, _, hne, _⟩ | ⟨_, _, _, he⟩
  · exact absurd hshort hleast
  · exact absurd hfits (not_le.2 hlong)
  · exact absurd htrailer hne
  · rw [exec_of_commandBody_commit .frameDec s (hbody.trans he)]
    cases shb <;> rfl

end

/-- Settles O40: the frame is read in the section byte order. -/
theorem frameDecDecodesAFrame : Obligations.FrameDecDecodesAFrame := by
  unfold Obligations.FrameDecDecodesAFrame
  rintro s total _ hlimit h8 htype hbov htotal rfl
  have hbody := frameDecBody_in_section (s := s.start) hlimit h8 htype hbov
  exact ⟨exec_frameDec_too_short hbody htotal, exec_frameDec_truncated hbody htotal, exec_frameDec_mismatch hbody htotal,
    exec_frameDec_decoded hbody htotal⟩

/-- Settles O41: the frame is read in the order of its magic. -/
theorem frameDecOpensASection : Obligations.FrameDecOpensASection := by
  unfold Obligations.FrameDecOpensASection
  rintro s ord total _ hlimit h12 htype hmagic htotal rfl
  have hmagic : s.load (s.cursor + 8) 4 = toBytes byteOrderMagic 4 ord := by rw [hmagic]; cases ord <;> rfl
  have hbody := frameDecBody_of_magic (s := s.start) hlimit htype h12 hmagic
  refine ⟨exec_frameDec_too_short hbody htotal, exec_frameDec_truncated hbody htotal, exec_frameDec_mismatch hbody htotal,
    fun hleast hfits htrailer => ?_⟩
  rw [exec_frameDec_decoded hbody htotal hleast hfits htrailer, (s.loadInt_eq_shbType_iff ord s.cursor).2 htype]
  rfl

/-! ### The round trip (R178) -/

/-- Only BUF and its draw matter. -/
theorem State.FrameWritten.congr {s t u : State} {base type len : Nat} (h : s.FrameWritten t base type len)
    (hb : u.buf = t.buf) (hd : u.bufDraw = t.bufDraw) : s.FrameWritten u base type len where
  type_written := (State.loadInt_congr_buf hb hd _ _ _).trans h.type_written
  length_written := (State.loadInt_congr_buf hb hd _ _ _).trans h.length_written
  trailer_written := (State.loadInt_congr_buf hb hd _ _ _).trans h.trailer_written
  padding a hlo hhi := (State.byteAt_congr hb hd a).trans (h.padding a hlo hhi)
  frame a ha := (State.byteAt_congr hb hd a).trans (h.frame a ha)

/-- After a FRAME_ENC the frame stands at the base, in the section that was open. -/
theorem State.MayFrame.frameWritten {s t : State} (h : s.MayFrame) (ht : exec .frameEnc s = .next t) :
    s.FrameWritten t s.cursor s.value s.len ∧ t.cfg = s.cfg ∧ t.ctrl = s.ctrl := by
  rw [h.exec_frameEnc] at ht
  obtain rfl := Host.Outcome.next.inj ht
  exact ⟨(s.frameWritten_storeFrame h.type h.total).congr rfl rfl, rfl, rfl⟩

section
variable {s t : State} {type len : Nat} (h : s.FrameWritten t t.cursor type len)
variable (hctrl : t.ctrl = s.ctrl) (hbov : s.ctrl.bov = true)
variable (hlimit : t.limit ≤ t.cfg.bufBytes) (hfits : t.cursor + totalLength len ≤ t.limit)
variable (hmagic : type = 0x0A0D0D0A → 4 ≤ len ∧ s.load (t.cursor + 8) 4 = toBytes byteOrderMagic 4 s.ctrl.bo)
include h hctrl hbov hlimit hfits hmagic

/-- FRAME_DEC takes a written frame for a Section Header exactly if its type says so, reads it in the order it was written in, and
finds the body long enough. -/
theorem State.FrameWritten.frameDecBody :
    frameDecBody t.start = frameDecIn s.ctrl.bo (decide (type = 0x0A0D0D0A)) t.start ∧
      leastTotal (decide (type = 0x0A0D0D0A)) ≤ totalLength len := by
  have htotal := totalLength_eq len
  have hlen := ceil4_le len
  have hheader := (t.loadInt_eq_shbType_iff s.ctrl.bo t.cursor).symm
  rw [h.type_written] at hheader
  by_cases htype : type = 0x0A0D0D0A
  · obtain ⟨h4, hmagic⟩ := hmagic htype
    have hkept : t.load (t.cursor + 8) 4 = s.load (t.cursor + 8) 4 :=
      State.load_congr fun a hlo hhi => h.frame a (.inr (.inl ⟨hlo, by omega⟩))
    rw [decide_eq_true htype]
    refine ⟨frameDecBody_of_magic (s := t.start) hlimit (hheader.2 htype) ?_ (hkept.trans hmagic), ?_⟩
    · exact le_trans (Nat.add_le_add_left (by omega) t.cursor) hfits
    · exact show 16 ≤ totalLength len by omega
  · rw [decide_eq_false htype, ← hctrl]
    refine ⟨frameDecBody_in_section (s := t.start) hlimit ?_ (hheader.not.2 htype) (hctrl ▸ hbov), ?_⟩
    · exact le_trans (Nat.add_le_add_left (by omega) t.cursor) hfits
    · exact show 12 ≤ totalLength len by omega

/-- FRAME_DEC's effect at the base of a written frame: CTRL stays, even when the frame opens its section anew. -/
theorem State.FrameWritten.exec_frameDec :
    exec .frameDec t = .next { t with
      res0 := BitVec.ofNat 64 type
      res1 := BitVec.ofNat 64 (totalLength len)
      res2 := BitVec.ofNat 64 (ceil4 len)
      res3 := BitVec.ofNat 64 (t.cursor + totalLength len)
      info := if type = 0x0A0D0D0A then { Info.zero with shb := true, detbo := s.ctrl.bo } else Info.zero
      status := t.status.succeeded } := by
  obtain ⟨hbody, hleast⟩ := h.frameDecBody hctrl hbov hlimit hfits hmagic
  have hend : t.cursor + trailerOffset (totalLength len) + 4 = t.cursor + totalLength len := by
    rw [trailerOffset_totalLength, totalLength_eq]
    omega
  have hopen : { t.ctrl with bo := s.ctrl.bo, bov := true } = t.ctrl := by rw [hctrl, ← hbov]
  have hlen : totalLength len - 12 = ceil4 len := Nat.add_sub_cancel_left 12 _
  rw [exec_frameDec_decoded hbody h.length_written.symm hleast (hend.trans_le hfits) h.trailer_written, h.type_written,
    hend, hopen, hlen]
  simp only [decide_eq_true_eq, ite_self]

end

/-- Settles O42: FRAME_ENC's checks passed, so its frame stands at the base, and FRAME_DEC decodes it there. -/
theorem framesRoundTrip : Obligations.FramesRoundTrip := by
  unfold Obligations.FramesRoundTrip
  intro s t lim hlegal henc hok hend hlim hmagic
  obtain ⟨_, hbufBytes, _⟩ := hlegal
  have hmay := State.mayFrame_of_exec henc hok
  obtain ⟨hwritten, hcfg, hctrl⟩ := hmay.frameWritten henc
  have hshb : s.value = 0x0A0D0D0A ↔ s.arg2 = 0x0A0D0D0A := (BitVec.toNat_eq (x := s.arg2) (y := 0x0A0D0D0A)).symm
  have hcursor := t.cursor_withArgs (a0 := s.cursor) lim 0 0 s.arg0.isLt
  have hlimit := t.limit_withArgs s.cursor (a1 := lim) 0 0 (by omega)
  have hfits : s.cursor + totalLength s.len ≤ lim := (Nat.add_assoc _ _ _).symm.trans_le hend
  have hframe : s.FrameWritten (t.withArgs s.cursor lim 0 0) (t.withArgs s.cursor lim 0 0).cursor s.value s.len := by
    rw [hcursor]
    exact hwritten.congr rfl rfl
  refine ⟨_, hframe.exec_frameDec hctrl hmay.bov ?_ ?_ ?_, rfl, ?_, rfl, rfl, ?_, hctrl, ?_⟩
  · rw [hlimit]
    exact hlim.trans_eq (congrArg Config.bufBytes hcfg.symm)
  · rw [hlimit, hcursor]
    exact hfits
  · rw [hshb, hcursor]
    exact hmagic
  · simp [State.value]
  · rw [hcursor, Nat.add_assoc]
    rfl
  · rw [← hshb]
    by_cases htype : s.value = 0x0A0D0D0A
    · simp [htype]
    · simp [htype, Info.zero]

end Sys2Proof.Machine

namespace Sys2Proof.Machine

/-! ### The engine's turn (R87, R100, R212, R218) -/

/-- With no turn waiting the engine moves (assumption 4). -/
theorem step_of_no_turns {s : State} (h : s.turns = []) : step s = engineTurn s := by
  rw [step, h]

theorem engineTurn_idle {s : State} (h : s.status.busy = false) : engineTurn s = .next s := by
  rw [engineTurn, h]
  rfl

theorem engineTurn_of_decode {s : State} {i : Instr} (hbusy : s.status.busy = true) (hi : decode s.cmd = .ok i) :
    engineTurn s = exec i s := by
  rw [engineTurn, if_pos hbusy, hi]

/-- Settles O6: a step is the engine's turn, with or without a turn to take off, and a busy engine's turn is the command. -/
theorem stepPerformsTheLatchedCommand : Obligations.StepPerformsTheLatchedCommand := by
  unfold Obligations.StepPerformsTheLatchedCommand
  intro s ts
  refine ⟨fun i hbusy hi => ⟨fun hnone => ?_, fun hengine => ?_⟩, fun hidle => ⟨fun hnone => ?_, fun hengine => ?_⟩⟩
  · rw [step_of_no_turns hnone, engineTurn_of_decode hbusy hi]
  · rw [step_of_turns hengine]
    exact engineTurn_of_decode hbusy hi
  · rw [step_of_no_turns hnone, engineTurn_idle hidle]
  · rw [step_of_turns hengine]
    exact engineTurn_idle hidle

@[simp] theorem complete_busy (s : State) (c : CmdEnd) : (complete s c).status.busy = false := by
  rcases c with _ | ⟨_, _ | _⟩ <;> rfl

@[simp] theorem complete_done (s : State) (c : CmdEnd) : (complete s c).status.done = true := by
  rcases c with _ | ⟨_, _ | _⟩ <;> rfl

/-- The turn of a busy engine keeps ERR, and sets it for an error (R44, R212). -/
theorem engineTurn_err {s t : State} (hbusy : s.status.busy = true) (ht : engineTurn s = .next t) :
    t.status.err = (s.status.err || t.status.errcode != .ok) :=
  congrArg (·.status.err) (Host.Outcome.next.inj
    (ht.symm.trans (engineTurn_sticky s.status.done s.status.err s.status.warn s.status.problem s.status.ovr hbusy ht)))

/-- Settles O9: the turn is the completion of the word's body, and ERR is as `engineTurn_err` says. -/
theorem everyLatchedWordCompletes : Obligations.EveryLatchedWordCompletes := by
  unfold Obligations.EveryLatchedWordCompletes
  intro s hbusy
  have ht := engineTurn_eq hbusy
  refine ⟨_, ht, complete_busy _ _, complete_done _ _, ?_⟩
  rw [engineTurn_err hbusy ht, Bool.or_eq_true, bne_iff_ne]

/-! ### Errors (R203, R207, R211, R214) -/

theorem policy_of_multiplicity_policyFail {s : State} {code : Nat} {dir : Direction}
    (h : multiplicity (s.lookup code) dir s = .policyFail) : s.ctrl.policy = .fail := by
  rcases multiplicity_cases s code dir with ⟨_, e⟩ | ⟨_, _, _, _, e⟩ |
    ⟨_, _, _, _, _, ⟨hp, _⟩ | ⟨_, _, _, e⟩ | ⟨_, _, e⟩ | ⟨_, _, e⟩⟩
  case inr.inr.inl => exact hp
  all_goals cases e.symm.trans h

/-- A command fails over a problem under POLICY = FAIL alone (R207): only the multiplicity check of OPT_DEC and OPT_ENC does. -/
theorem policy_of_commandBody_raise_some {i : Instr} {s : State} {code : ErrorCode} {p : ProblemCode}
    (h : commandBody i s = .raise code (some p)) : s.ctrl.policy = .fail := by
  cases i with
  | nop => cases h
  | intDec width signed =>
    rcases intDecBody_cases width signed s with ⟨_, e⟩ | ⟨_, _, e⟩ | ⟨_, _, _, e⟩ <;> cases e.symm.trans h
  | intEnc width signed =>
    rcases intEncBody_cases width s with ⟨_, e⟩ | ⟨_, _, e⟩ | ⟨_, _, _, e⟩ <;> cases e.symm.trans h
  | flagConfig =>
    rcases flagConfigBody_cases s with e | ⟨_, _, _, _, _, e⟩ <;> cases e.symm.trans h
  | flagGet fidx =>
    rcases flagGetBody_cases fidx s with ⟨_, e⟩ | ⟨_, _, e⟩ <;> cases e.symm.trans h
  | flagSet fidx =>
    rcases flagSetBody_cases fidx s with ⟨_, e⟩ | ⟨_, _, e⟩ <;> cases e.symm.trans h
  | optBegin => cases h
  | optDec =>
    rcases optDecBody_cases s with ⟨_, e⟩ | ⟨_, _, e⟩ | ⟨_, _, _, e⟩ | ⟨_, _, _, _, e⟩ | ⟨_, _, _, _, _, e⟩ |
      ⟨_, _, _, _, _, ⟨_, _, e⟩ | ⟨hm, e⟩⟩ <;> cases e.symm.trans h
    exact policy_of_multiplicity_policyFail hm
  | optEnc =>
    rcases optEncBody_cases s with ⟨_, e⟩ | ⟨_, _, e⟩ | ⟨_, _, _, e⟩ | ⟨_, _, _, _, e⟩ |
      ⟨_, _, _, _, ⟨_, _, e⟩ | ⟨_, _, e⟩ | ⟨hm, e⟩⟩ <;> cases e.symm.trans h
    exact policy_of_multiplicity_policyFail hm
  | optEnd =>
    rcases optEndBody_cases s with ⟨_, e⟩ | ⟨_, _, e⟩ <;> cases e.symm.trans h
  | frameEnc =>
    rcases frameEncBody_cases s with ⟨_, e⟩ | ⟨_, _, e⟩ | ⟨_, _, _, e⟩ | ⟨_, _, _, _, e⟩ | ⟨_, _, _, _, _, e⟩ <;>
      cases e.symm.trans h
  | frameDec =>
    rcases frameDecBody_frame s with ⟨_, _, _, e⟩ | ⟨_, e, _⟩ <;> cases e.symm.trans h

/-- A command that fails records its error, and for POLICY_FAIL the report (R211, R214). -/
theorem exec_of_errcode_ne_ok {i : Instr} {s t : State} (h : exec i s = .next t) (herr : t.status.errcode ≠ .ok) :
    (t.status.errcode ≠ .policyFail ∧ t = s.failedWith t.status.errcode) ∨
    (t.status.errcode = .policyFail ∧
      t = { s.failedWith .policyFail with
        problemCnt := countedUp s.problemCnt
        status := { s.status.failed .policyFail with problem := true, probcode := .dupOption } }) := by
  have hreport := commandBody_reportsRightly i s.start
  rcases hc : commandBody i s.start with u | ⟨e, _ | p⟩ <;> rw [hc] at hreport
  · cases h.symm.trans (exec_of_commandBody_commit i s hc)
    exact absurd rfl herr
  · obtain ⟨hok, hpolicy⟩ := hreport
    cases h.symm.trans (exec_of_commandBody_raise i s hok hc)
    exact .inl ⟨hpolicy, rfl⟩
  · obtain ⟨rfl, rfl⟩ := hreport
    cases h.symm.trans (exec_of_commandBody_policyFail (policy_of_commandBody_raise_some (s := s.start) hc) hc)
    exact .inr ⟨rfl, rfl⟩

/-- Settles O10: an illegal word records ILLEGAL_CMD, and a command that fails its own error. -/
theorem failedCommandsLeaveNoOtherTrace : Obligations.FailedCommandsLeaveNoOtherTrace := by
  unfold Obligations.FailedCommandsLeaveNoOtherTrace
  intro s t hbusy ht herr
  cases hw : decode s.cmd with
  | ok i => exact exec_of_errcode_ne_ok ((engineTurn_of_decode hbusy hw).symm.trans ht) herr
  | error e =>
    cases ht.symm.trans (engineTurn_illegal hbusy hw)
    exact .inl ⟨nofun, rfl⟩

/-! ### The same command under another POLICY (R202, R203) -/

/-- `s` with another value of CTRL.POLICY. -/
def State.withPolicy (s : State) (p : Policy) : State := { s with ctrl := { s.ctrl with policy := p } }

/-- The error that a command's end raises without the report of a problem, if it raises one. -/
def CmdEnd.plainError : CmdEnd → Option ErrorCode
  | .raise e none => some e
  | .raise _ (some _) => none
  | .commit _ => none

/-- Every error but POLICY_FAIL is raised without a report (R203). -/
theorem errcode_complete_iff {s : State} {c : CmdEnd} (hreport : c.ReportsRightly) {e : ErrorCode} (hok : e ≠ .ok)
    (hpolicy : e ≠ .policyFail) : (complete s c).status.errcode = e ↔ c.plainError = some e := by
  rcases c with u | ⟨code, _ | p⟩
  · simp [CmdEnd.plainError, hok.symm]
  · simp [CmdEnd.plainError]
  · obtain ⟨rfl, rfl⟩ := hreport
    simp [CmdEnd.plainError, hpolicy.symm]

section
variable (s : State) (p : Policy)

theorem frameDecIn_plainError_withPolicy (ord : ByteOrder) (shb : Bool) :
    (frameDecIn ord shb (s.withPolicy p)).plainError = (frameDecIn ord shb s).plainError := by
  simp only [frameDecIn, apply_ite CmdEnd.plainError]
  rfl

theorem frameDecBody_plainError_withPolicy :
    (frameDecBody (s.withPolicy p)).plainError = (frameDecBody s).plainError := by
  have magic : (s.withPolicy p).load ((s.withPolicy p).cursor + 8) 4 = s.load (s.cursor + 8) 4 := rfl
  simp only [frameDecBody, apply_ite CmdEnd.plainError, frameDecIn_plainError_withPolicy, magic]
  cases detectOrder (s.load (s.cursor + 8) 4) with
  | none => rfl
  | some ord => simp only [frameDecIn_plainError_withPolicy]; rfl

/-- Whatever the multiplicity check makes of the record, the end is a commit or POLICY_FAIL. -/
theorem optDecBody_plainError_withPolicy :
    (optDecBody (s.withPolicy p)).plainError = (optDecBody s).plainError := by
  have code : (s.withPolicy p).codeAt (s.withPolicy p).cursor = s.codeAt s.cursor := rfl
  simp only [optDecBody, apply_ite CmdEnd.plainError, code]
  cases multiplicity ((s.withPolicy p).lookup (s.codeAt s.cursor)) .dec (s.withPolicy p) <;>
    cases multiplicity (s.lookup (s.codeAt s.cursor)) .dec s <;> rfl

theorem optEncBody_plainError_withPolicy :
    (optEncBody (s.withPolicy p)).plainError = (optEncBody s).plainError := by
  simp only [optEncBody, apply_ite CmdEnd.plainError]
  cases multiplicity ((s.withPolicy p).lookup (s.withPolicy p).value) .enc (s.withPolicy p) <;>
    cases multiplicity (s.lookup s.value) .enc s <;> rfl

/-- No check of a command but the multiplicity check reads POLICY (R203). -/
theorem commandBody_plainError_withPolicy (i : Instr) :
    (commandBody i (s.withPolicy p)).plainError = (commandBody i s).plainError := by
  cases i with
  | optDec => exact optDecBody_plainError_withPolicy s p
  | optEnc => exact optEncBody_plainError_withPolicy s p
  | frameDec => exact frameDecBody_plainError_withPolicy s p
  | nop | optBegin => rfl
  | intDec | intEnc | flagConfig | flagGet | flagSet | optEnd | frameEnc =>
    simp only [commandBody, intDecBody, intEncBody, flagConfigBody, flagGetBody, flagSetBody, optEndBody, frameEncBody,
      apply_ite CmdEnd.plainError]
    rfl

theorem latchedBody_plainError_withPolicy (word : BitVec 32) :
    (latchedBody word (s.withPolicy p)).plainError = (latchedBody word s).plainError := by
  unfold latchedBody
  cases decode word with
  | ok i => exact commandBody_plainError_withPolicy s p i
  | error _ => rfl

end

/-- The engine's turn ends with an error other than POLICY_FAIL exactly when the word's body raises it. -/
theorem errcode_engineTurn_iff {s t : State} (hbusy : s.status.busy = true) (ht : engineTurn s = .next t) {e : ErrorCode}
    (hok : e ≠ .ok) (hpolicy : e ≠ .policyFail) :
    t.status.errcode = e ↔ (latchedBody s.cmd s.start).plainError = some e := by
  cases ht.symm.trans (engineTurn_eq hbusy)
  exact errcode_complete_iff (latchedBody_reportsRightly _ _) hok hpolicy

/-- Settles O13: the word's body raises the same such error under either POLICY. -/
theorem policyNeverGatesOtherErrors : Obligations.PolicyNeverGatesOtherErrors := by
  unfold Obligations.PolicyNeverGatesOtherErrors
  intro s t t' p hbusy ht ht' e hok hpolicy herr
  rw [errcode_engineTurn_iff hbusy ht hok hpolicy] at herr
  rw [errcode_engineTurn_iff (s := s.withPolicy p) hbusy ht' hok hpolicy, ← herr]
  exact latchedBody_plainError_withPolicy s.start p s.cmd

/-! ### The interrupt line (R213) -/

theorem State.irq_eq_true_iff (s : State) :
    s.irq = true ↔ (s.status.done = true ∧ s.ctrl.ieDone = true) ∨ (s.status.err = true ∧ s.ctrl.ieErr = true) ∨
      (s.status.warn = true ∧ s.ctrl.ieWarn = true) := by
  simp [State.irq, or_assoc]

/-- CTRL with the three interrupt enables cleared. -/
def Ctrl.withoutEnables (c : Ctrl) : Ctrl := { c with ieDone := false, ieErr := false, ieWarn := false }

theorem Ctrl.toWord_withoutEnables (c : Ctrl) : c.withoutEnables.toWord = c.toWord &&& ~~~0x700#64 := by
  simp (disch := decide) [Ctrl.toWord, Ctrl.withoutEnables, BitVec.and_or_distrib_right, bitAt_and, fieldAt_and_eq_self]

theorem Policy.ofCode_code (p : Policy) : Policy.ofCode p.code = p := by
  cases p <;> rfl

theorem orderOfBit_orderBit (o : ByteOrder) : orderOfBit (orderBit o) = o := by
  cases o <;> rfl

/-- A write of CTRL's own value changes nothing (R22 to R26). -/
theorem Ctrl.ofWord_toWord (c : Ctrl) : Ctrl.ofWord c.toWord = c := by
  simp [Ctrl.ofWord, Ctrl.toWord, BitVec.extractLsb'_or, Policy.ofCode_code, orderOfBit_orderBit]

/-- SRST reads 0 (R26). -/
theorem Ctrl.getLsbD_toWord_srst (c : Ctrl) : c.toWord.getLsbD 63 = false := by
  simp [Ctrl.toWord]

/-- Settles O53: the STATUS write clears the three bits; CTRL's word without the enables is that of `Ctrl.withoutEnables`. -/
theorem irqFollowsStatusAndEnables : Obligations.IrqFollowsStatusAndEnables := by
  unfold Obligations.IrqFollowsStatusAndEnables
  intro s
  refine ⟨s.irq_eq_true_iff, ⟨_, hostWrite_status s 0xE, ?_⟩, fun hidle => ?_⟩
  · simp [State.irq, Status.writeOneToClear]
  · have hword : s.readReg .ctrl &&& ~~~0x700#64 = s.ctrl.withoutEnables.toWord := s.ctrl.toWord_withoutEnables.symm
    rw [hword]
    refine ⟨{ s with ctrl := s.ctrl.withoutEnables }, ?_, ?_, rfl⟩
    · rw [hostWrite_register_idle (r := .ctrl) _ hidle rfl, s.writeReg_ctrl (Ctrl.getLsbD_toWord_srst _), Ctrl.ofWord_toWord]
    · simp [State.irq, Ctrl.withoutEnables]

end Sys2Proof.Machine

namespace Sys2Proof.Machine

/-! ### Register writes by their target (R231, R236) -/

theorem hostWrite_of_register {addr : Nat} {width : AccessWidth} {s : State} {r : Reg}
    (hr : target s.cfg addr width = .register r) (v : Word) :
    hostWrite addr width v s = .next (if s.status.busy then s.writeRegBusy r v else s.writeReg r v) := by
  rw [hostWrite, hr]

theorem hostWrite_of_window {addr : Nat} {width : AccessWidth} {s : State} {a : Nat}
    (ha : target s.cfg addr width = .window a) (v : Word) :
    hostWrite addr width v s = .next (if s.status.busy then s.dropWrite else s.writeWindow a width v) := by
  rw [hostWrite, ha]

theorem State.writeRegBusy_dropped (s : State) {r : Reg} {v : Word} (hstatus : r ≠ .status)
    (hreset : ¬(r = .ctrl ∧ srst v = true)) :
    s.writeRegBusy r v = s.dropWrite := by
  rw [State.writeRegBusy, if_neg hstatus, if_neg hreset]

/-- A CTRL write with SRST = 1 is the soft reset, busy or idle (R231). -/
theorem hostWrite_softReset {addr : Nat} {width : AccessWidth} {v : Word} {s : State}
    (hctrl : target s.cfg addr width = .register .ctrl) (hv : v.getLsbD 63 = true) :
    hostWrite addr width v s = .next s.softReset := by
  have hidle : s.writeReg .ctrl v = s.softReset := if_pos hv
  have hbusy : s.writeRegBusy .ctrl v = s.softReset := by rw [State.writeRegBusy, if_neg (by decide), if_pos ⟨rfl, hv⟩]
  rw [hostWrite_of_register hctrl, hidle, hbusy, ite_self]

/-- Settles O44: the write is the soft reset in both states, which keeps BUF and the parameters. -/
theorem softResetIsAlwaysHonoured : Obligations.SoftResetIsAlwaysHonoured := by
  unfold Obligations.SoftResetIsAlwaysHonoured
  intro s v hv
  have hctrl : target s.cfg (s.cfg.apertureBase + 0x008) .b8 = .register .ctrl :=
    target_register s.cfg (by decide) (by decide)
  exact ⟨s.softReset, hostWrite_softReset hctrl hv, s.readReg_softReset, rfl, rfl, fun _ => rfl⟩

/-- Settles O45: one equation for each target. -/
theorem writesWhileBusyAreDropped : Obligations.WritesWhileBusyAreDropped := by
  unfold Obligations.WritesWhileBusyAreDropped
  intro s addr width v hbusy
  refine ⟨fun r hr hstatus hreset => ?_, fun a ha => ?_, hostWrite_softReset, fun hstatus => ?_⟩
  · rw [hostWrite_of_register hr, if_pos hbusy, s.writeRegBusy_dropped hstatus hreset]
    rfl
  · rw [hostWrite_of_window ha, if_pos hbusy]
    rfl
  · rw [hostWrite_of_register hstatus, if_pos hbusy]
    rfl

/-! ### OPT_SEEN's bits (R34, R143, R239) -/

/-- Every bit of OPT_SEEN set in `s` is set in `t`. -/
def State.KeepsSeen (s t : State) : Prop := ∀ i, s.optSeen.getLsbD i = true → t.optSeen.getLsbD i = true

theorem State.KeepsSeen.of_eq {s t : State} (h : t.optSeen = s.optSeen) : s.KeepsSeen t :=
  fun _ hi => by rwa [h]

theorem State.keepsSeen_markSeen (s : State) (i : Nat) : s.KeepsSeen (s.markSeen i) :=
  fun k hk => by rw [State.markSeen_optSeen, BitVec.getLsbD_or, hk, Bool.true_or]

/-- The multiplicity check marks entries and clears none (R142). -/
theorem multiplicity_keepsSeen {s t : State} {code : Nat} {dir : Direction}
    (h : multiplicity (s.lookup code) dir s = .accept t ∨ multiplicity (s.lookup code) dir s = .discard t) :
    s.KeepsSeen t := by
  rcases multiplicity_cases s code dir with ⟨_, e⟩ | ⟨i, d, _, _, e⟩ | ⟨i, d, _, _, _, hpolicy⟩
  · rw [e] at h
    rcases h with h | h <;> cases h
    exact .of_eq rfl
  · rw [e] at h
    rcases h with h | h <;> cases h
    exact (s.known i d).keepsSeen_markSeen i
  · rcases hpolicy with ⟨_, e⟩ | ⟨_, _, _, e⟩ | ⟨_, _, e⟩ | ⟨_, _, e⟩ <;> rw [e] at h <;> rcases h with h | h <;> cases h <;>
      exact .of_eq rfl

theorem optDecBody_keepsSeen {s u : State} (h : optDecBody s = .commit u) : s.KeepsSeen u := by
  rcases optDecBody_cases s with ⟨_, e⟩ | ⟨_, _, e⟩ | ⟨_, _, _, e⟩ | ⟨_, _, _, _, e⟩ | ⟨_, _, _, _, _, e⟩ |
    ⟨_, _, _, _, _, ⟨t, hm, e⟩ | ⟨_, e⟩⟩ <;> cases e.symm.trans h
  · exact .of_eq rfl
  · exact .of_eq rfl
  · exact (multiplicity_keepsSeen hm : s.KeepsSeen t)

theorem optEncBody_keepsSeen {s u : State} (h : optEncBody s = .commit u) : s.KeepsSeen u := by
  rcases optEncBody_cases s with ⟨_, e⟩ | ⟨_, _, e⟩ | ⟨_, _, _, e⟩ | ⟨_, _, _, _, e⟩ |
    ⟨_, _, _, _, ⟨t, hm, e⟩ | ⟨t, hm, e⟩ | ⟨_, e⟩⟩ <;> cases e.symm.trans h
  · exact (multiplicity_keepsSeen (.inl hm) : s.KeepsSeen t)
  · exact (multiplicity_keepsSeen (.inr hm) : s.KeepsSeen t)

/-- A command's completion writes no bit of OPT_SEEN: what its body commits decides, and a raise keeps all (R211, R212). -/
theorem exec_keepsSeen_of_commandBody {i : Instr} {s t : State} (h : exec i s = .next t)
    (hbody : ∀ u, commandBody i s.start = .commit u → s.start.KeepsSeen u) : s.KeepsSeen t := by
  rw [eq_complete_of_exec h]
  rcases he : commandBody i s.start with u | ⟨e, _ | p⟩
  · exact hbody u he
  · exact .of_eq rfl
  · exact .of_eq rfl

/-- No command but OPT_BEGIN clears a bit of OPT_SEEN: OPT_DEC and OPT_ENC mark entries, the others leave it alone (R42). -/
theorem exec_keepsSeen {i : Instr} {s t : State} (h : exec i s = .next t) (hbegin : i ≠ .optBegin) : s.KeepsSeen t := by
  by_cases hdec : i = .optDec
  · subst hdec
    exact exec_keepsSeen_of_commandBody h fun _ => optDecBody_keepsSeen
  by_cases henc : i = .optEnc
  · subst henc
    exact exec_keepsSeen_of_commandBody h fun _ => optEncBody_keepsSeen
  exact .of_eq ((exec_writesOwn h).optSeen hbegin hdec henc)

/-- The engine's turn performs OPT_BEGIN or clears no bit of OPT_SEEN. -/
theorem engineTurn_keepsSeen {s t : State} (h : engineTurn s = .next t) :
    (s.status.busy = true ∧ decode s.cmd = .ok .optBegin) ∨ s.KeepsSeen t := by
  unfold engineTurn at h
  split at h
  · next hbusy =>
    split at h
    · next i hdecode =>
      by_cases hi : i = .optBegin
      · exact .inl ⟨hbusy, hi ▸ hdecode⟩
      · exact .inr (exec_keepsSeen h hi)
    · cases h
      exact .inr (.of_eq rfl)
  · cases h
    exact .inr (.of_eq rfl)

/-- An idle write of another register leaves OPT_SEEN alone, but for a soft reset. -/
theorem State.optSeen_writeReg (s : State) {r : Reg} {v : Word} (hr : r ≠ .optSeen) (hreset : ¬(r = .ctrl ∧ srst v = true)) :
    (s.writeReg r v).optSeen = s.optSeen := by
  cases r with
  | optSeen => exact absurd rfl hr
  | ctrl => rw [s.writeReg_ctrl (Bool.eq_false_iff.2 fun hv => hreset ⟨rfl, hv⟩)]
  | _ => rfl

/-- A write while BUSY = 1 leaves OPT_SEEN alone, but for a soft reset (R236). -/
theorem State.optSeen_writeRegBusy (s : State) {r : Reg} {v : Word} (hreset : ¬(r = .ctrl ∧ srst v = true)) :
    (s.writeRegBusy r v).optSeen = s.optSeen := by
  by_cases hstatus : r = .status
  · rw [State.writeRegBusy, if_pos hstatus]
  · rw [s.writeRegBusy_dropped hstatus hreset, State.dropWrite_optSeen]

/-- Among host writes only one of OPT_SEEN and a soft reset write OPT_SEEN. -/
theorem hostWrite_optSeen {addr : Nat} {width : AccessWidth} {v : Word} {s t : State} (h : hostWrite addr width v s = .next t) :
    (target s.cfg addr width = .register .optSeen ∨
      (target s.cfg addr width = .register .ctrl ∧ v.getLsbD 63 = true)) ∨ t.optSeen = s.optSeen := by
  unfold hostWrite at h
  split at h
  · cases h
  · cases h
  · next r hr =>
    cases h
    by_cases hseen : r = .optSeen
    · exact .inl (.inl (hseen ▸ hr))
    by_cases hreset : r = .ctrl ∧ srst v = true
    · obtain ⟨rfl, hv⟩ := hreset
      exact .inl (.inr ⟨hr, hv⟩)
    right
    split
    · exact s.optSeen_writeRegBusy hreset
    · exact s.optSeen_writeReg hseen hreset
  · cases h
    right
    split <;> rfl

/-- Settles O57: by the kind of turn, OPT_SEEN keeps its bits or the turn is one of the four. -/
theorem seenBitsPersist : Obligations.SeenBitsPersist := by
  unfold Obligations.SeenBitsPersist
  intro s t i hstep hset hclear
  have hlost : ¬s.KeepsSeen t := fun h => by simp [h i hset] at hclear
  rcases hturns : s.turns with _ | ⟨turn, ts⟩
  · rw [step_of_no_turns hturns] at hstep
    exact .inl ⟨.inl rfl, (engineTurn_keepsSeen hstep).resolve_right hlost⟩
  · rw [step_of_turns hturns] at hstep
    cases turn with
    | write addr width v =>
      exact .inr (.inl ⟨addr, width, v, ts, rfl, (hostWrite_optSeen hstep).resolve_right fun h => hlost (.of_eq h)⟩)
    | read addr width =>
      obtain ⟨v, rfl⟩ := hostRead_eq_deliver hstep
      exact absurd (.of_eq rfl) hlost
    | hardReset => exact .inr (.inr ⟨ts, rfl⟩)
    | engine => exact .inl ⟨.inr ⟨ts, rfl⟩, (engineTurn_keepsSeen hstep).resolve_right hlost⟩

end Sys2Proof.Machine
